-- ==== Sys2Proof/Word.lean ====
section
/-! DEFINITION. The words of TDC1000-CSRPU: the byte, the 24-bit command word and the 16-bit serial frame. -/

namespace Sys2Proof

/-- A register image, a data byte, half a frame (spec R10: `u8`; R68). -/
abbrev Byte := BitVec 8

/-- A command word `cmd[23:0]` (spec R72). -/
abbrev CommandWord := BitVec 24

/-- A serial frame read as one number, `tx[0]` in bits 15:8 (spec R64, R65). -/
abbrev FrameWord := BitVec 16

/-- The encoding of an instruction: the command word of a host command, or the frame of a transfer
primitive, which no host word spells (spec R91; assumption log 15). -/
inductive InstrWord where
  | command (w : CommandWord)
  | frame (w : FrameWord)
deriving DecidableEq, Repr

end Sys2Proof
end

