-- ==== Sys2Proof/Config.lean ====
section
/-! DEFINITION. What the unit is configured with and never determines: the payload types of the two
error kinds, the environment's answers to the capability port (spec R8), and the two free values
of the model, the answer nothing has scripted and the output buffer after a failed `RDALL`. The data the spec fixes (`FIELDMAP`, `CODEMAP`,
`RESET_FIELDS`, `ERRCTL_CODE`, `DEASSERT_ERR_WINS`) stands in Machine/Codes.lean, Machine/Mirror.lean,
Machine/FieldMap.lean and Machine/Ops.lean. -/

namespace Sys2Proof

/-- A payload of a select-line error (spec R8, R201). The unit copies it and never looks inside; the
token only tells two payloads apart. DESIGN CHOICE, safe: assumption log 2. -/
structure SelErr where
  token : Nat
deriving DecidableEq, Repr, Inhabited

/-- A payload of a bus error (spec R8, R202), as opaque as `SelErr`. -/
structure BusErr where
  token : Nat
deriving DecidableEq, Repr, Inhabited

/-- What the environment does with one capability call (spec R8): for each kind of call the unit may
make, its answer, or `none` if it never answers (spec R173, U12). Only the part for the call that is
made is read. -/
structure Draw where
  /-- The answer to `Sel.assert()` or `Sel.deassert()`. -/
  sel : Option (Except SelErr Unit)
  /-- The answer to `Bus.write(tx)`. -/
  write : Option (Except BusErr Unit)
  /-- The answer to `Bus.exchange(tx)`: the two received bytes `[r0, r1]`, first byte first. -/
  exchange : Option (Except BusErr (Byte × Byte))
deriving DecidableEq, Repr, Inhabited

/-- The environment's answer to its n-th call where no script says it: a FREE VALUE (spec R8 "a model
takes each answer as an oracle draw, and every claim holds for every draw"; R52; assumption log 1). -/
opaque Config.freeDraw : Nat → Draw

/-- What the output buffer of `RDALL` holds after an `RDALL` that failed, by the number of calls answered
so far: a FREE VALUE (decision D14, U13: "`rxbuf` contents after a failure are unspecified"; assumption
log 23). -/
opaque Config.freeBuffer : Nat → Vector Byte 10

end Sys2Proof
end

