-- ==== Sys2Proof/Syntax.lean ====
section
/-! DEFINITION. The instructions of TDC1000-CSRPU: one constructor for each row of
spec/opcode_table.json, operands typed as the spec's abstract command type (R92), so that an
enumerated operand can only be a listed variant. -/

namespace Sys2Proof

/-- The variants of table E0 of rule R15. -/
inductive TxFrequencyDivider where
  | divideBy2 | divideBy4 | divideBy8 | divideBy16 | divideBy32 | divideBy64 | divideBy128 | divideBy256
deriving DecidableEq, Repr

/-- The variants of table E2 of rule R15. -/
inductive MeasurementCycles where
  | cycles1 | cycles2 | cycles4 | cycles8 | cycles16 | cycles32 | cycles64 | cycles128
deriving DecidableEq, Repr

/-- The variants of table E3 of rule R15. -/
inductive ReceiveEvents where
  | doNotCount | events1 | events2 | events3 | events4 | events5 | events6 | events7
deriving DecidableEq, Repr

/-- The variants of field id 4 of rule R15. -/
inductive VoltageReference where
  | internal | external
deriving DecidableEq, Repr

/-- The variants of field id 5 of rule R15. -/
inductive MeasurementMode where
  | timeOfFlight | temperature
deriving DecidableEq, Repr

/-- The variants of field ids 6, 7, 8, 14 and 24 of rule R15. -/
inductive Switch where
  | disable | enable
deriving DecidableEq, Repr

/-- The variants of field id 9 of rule R15. -/
inductive ChannelSelect where
  | channel1 | channel2
deriving DecidableEq, Repr

/-- The variants of field id 10 of rule R15; code 3 has no variant. -/
inductive TofMeasMode where
  | mode0 | mode1 | mode2
deriving DecidableEq, Repr

/-- The variants of field id 11 of rule R15. -/
inductive TempMode where
  | refRtd1Rtd2 | refRtd1
deriving DecidableEq, Repr

/-- The variants of field id 12 of rule R15. -/
inductive TempRtdSelect where
  | pt1000 | pt500
deriving DecidableEq, Repr

/-- The variants of field id 13 of rule R15. -/
inductive TempClockDivider where
  | divideBy8 | useTxFrequencyDivider
deriving DecidableEq, Repr

/-- The variants of table E15 of rule R15. -/
inductive EchoThreshold where
  | mv35 | mv50 | mv75 | mv125 | mv220 | mv410 | mv775 | mv1500
deriving DecidableEq, Repr

/-- The variants of field id 16 of rule R15. -/
inductive ReceiveMode where
  | singleEcho | multiEcho
deriving DecidableEq, Repr

/-- The variants of field id 17 of rule R15. -/
inductive TriggerEdge where
  | risingEdge | fallingEdge
deriving DecidableEq, Repr

/-- The variants of table E19 of rule R15. -/
inductive PgaGain where
  | db0 | db3 | db6 | db9 | db12 | db15 | db18 | db21
deriving DecidableEq, Repr

/-- The variants of field ids 20 and 21 of rule R15. -/
inductive AmpControl where
  | active | bypassed
deriving DecidableEq, Repr

/-- The variants of field id 22 of rule R15. -/
inductive LnaFeedback where
  | capacitive | resistive
deriving DecidableEq, Repr

/-- The variants of table E25 of rule R15. -/
inductive ShortTofBlankPeriod where
  | t0Times8 | t0Times16 | t0Times32 | t0Times64 | t0Times128 | t0Times256 | t0Times512 | t0Times1024
deriving DecidableEq, Repr

/-- The variants of field id 26 of rule R15; Enable is 0 here. -/
inductive EchoTimeout where
  | enable | disable
deriving DecidableEq, Repr

/-- The variants of table E27 of rule R15. -/
inductive TofTimeoutControl where
  | t0Times128 | t0Times256 | t0Times512 | t0Times1024
deriving DecidableEq, Repr

/-- The variants of field id 28 of rule R15. -/
inductive ClockInDivider where
  | divideBy1 | divideBy2
deriving DecidableEq, Repr

/-- The variants of table E29 of rule R15. -/
inductive AutoZeroPeriod where
  | t0Times64 | t0Times128 | t0Times256 | t0Times512
deriving DecidableEq, Repr

/-- The ten remote register addresses, by name (spec R47). -/
inductive RegAddr where
  | config0 | config1 | config2 | config3 | config4 | tof1 | tof0 | errFlag | timeOut | clockRate
deriving DecidableEq, Repr

/-- The four control codes written to ErrFlag (spec R23, R176). -/
inductive ErrControl where
  | noOp | resetFlagsAndPin | resetStateMachine | resetErrorStateMachineAndMeasurement
deriving DecidableEq, Repr

/-- The instructions: 30 setters, 9 byte accessors, 5 bus commands, and the two transfer primitives
whose frames are rows of the opcode table (assumption log 15). -/
inductive Instr where
  /-- `SET.tx_frequency_divider`, spec R102. -/
  | setTxFrequencyDivider (v : TxFrequencyDivider)
  /-- `SET.tx_pulses`, spec R103. -/
  | setTxPulses (raw : Int)
  /-- `SET.measurement_cycles`, spec R104. -/
  | setMeasurementCycles (v : MeasurementCycles)
  /-- `SET.receive_events`, spec R105. -/
  | setReceiveEvents (v : ReceiveEvents)
  /-- `SET.voltage_reference`, spec R106. -/
  | setVoltageReference (v : VoltageReference)
  /-- `SET.measurement_mode`, spec R107. -/
  | setMeasurementMode (v : MeasurementMode)
  /-- `SET.damping`, spec R108. -/
  | setDamping (v : Switch)
  /-- `SET.channel_swap`, spec R109. -/
  | setChannelSwap (v : Switch)
  /-- `SET.external_channel_select`, spec R110. -/
  | setExternalChannelSelect (v : Switch)
  /-- `SET.channel_select`, spec R111. -/
  | setChannelSelect (v : ChannelSelect)
  /-- `SET.tof_meas_mode`, spec R112. -/
  | setTofMeasMode (v : TofMeasMode)
  /-- `SET.temp_mode`, spec R113. -/
  | setTempMode (v : TempMode)
  /-- `SET.temp_rtd_select`, spec R114. -/
  | setTempRtdSelect (v : TempRtdSelect)
  /-- `SET.temp_clock_divider`, spec R115. -/
  | setTempClockDivider (v : TempClockDivider)
  /-- `SET.power_blanking`, spec R116. -/
  | setPowerBlanking (v : Switch)
  /-- `SET.echo_qualification_threshold`, spec R117. -/
  | setEchoQualificationThreshold (v : EchoThreshold)
  /-- `SET.receive_mode`, spec R118. -/
  | setReceiveMode (v : ReceiveMode)
  /-- `SET.trigger_edge_polarity`, spec R119. -/
  | setTriggerEdgePolarity (v : TriggerEdge)
  /-- `SET.tx_pulse_shift_position`, spec R120. -/
  | setTxPulseShiftPosition (raw : Int)
  /-- `SET.pga_gain`, spec R121. -/
  | setPgaGain (v : PgaGain)
  /-- `SET.pga_control`, spec R122. -/
  | setPgaControl (v : AmpControl)
  /-- `SET.lna_control`, spec R123. -/
  | setLnaControl (v : AmpControl)
  /-- `SET.lna_feedback`, spec R124. -/
  | setLnaFeedback (v : LnaFeedback)
  /-- `SET.tof_value`, spec R125. -/
  | setTofValue (raw : Int)
  /-- `SET.force_short_tof`, spec R126. -/
  | setForceShortTof (v : Switch)
  /-- `SET.short_tof_blank_period`, spec R127. -/
  | setShortTofBlankPeriod (v : ShortTofBlankPeriod)
  /-- `SET.echo_timeout`, spec R128. -/
  | setEchoTimeout (v : EchoTimeout)
  /-- `SET.tof_timeout_control`, spec R129. -/
  | setTofTimeoutControl (v : TofTimeoutControl)
  /-- `SET.clock_in_divider`, spec R130. -/
  | setClockInDivider (v : ClockInDivider)
  /-- `SET.auto_zero_period`, spec R131. -/
  | setAutoZeroPeriod (v : AutoZeroPeriod)
  /-- `GETB.CONFIG0`, spec R141. -/
  | getbConfig0
  /-- `GETB.CONFIG1`, spec R142. -/
  | getbConfig1
  /-- `GETB.CONFIG2`, spec R143. -/
  | getbConfig2
  /-- `GETB.CONFIG3`, spec R144. -/
  | getbConfig3
  /-- `GETB.CONFIG4`, spec R145. -/
  | getbConfig4
  /-- `GETB.TOF1`, spec R146. -/
  | getbTof1
  /-- `GETB.TOF0`, spec R147. -/
  | getbTof0
  /-- `GETB.TIMEOUT`, spec R148. -/
  | getbTimeOut
  /-- `GETB.CLOCKRATE`, spec R149. -/
  | getbClockRate
  /-- `RDREG a`, spec R175. -/
  | rdreg (a : RegAddr)
  /-- `WRERR c`, spec R176. -/
  | wrerr (c : ErrControl)
  /-- `WRALL`, spec R191. -/
  | wrall
  /-- `RDALL`, spec R194. -/
  | rdall
  /-- `RDERR`, spec R177. -/
  | rderr
  /-- `FRAME_W`, spec R64: the primitive `WR(a, v)` of R171. -/
  | frameW (a : RegAddr) (v : Byte)
  /-- `FRAME_R`, spec R65: the primitive `RD(a)` of R172. -/
  | frameR (a : RegAddr)
deriving DecidableEq, Repr

end Sys2Proof
end

