-- ==== Sys2Proof/Machine/Codes.lean ====
section
/-! DEFINITION. The fixed constants of the unit: the code of every variant (`CODEMAP`, spec R15 and
R82: a table, never arithmetic on positions), the register numbers (R47), the error-control codes
(`ERRCTL_CODE`, R23), the frame constants (R6, R63) and the byte pairs of the two frames (R64, R65).
The codes and numbers the spec marks G are PRESUMED (unsafe): assumption logs 4 and 6. -/

namespace Sys2Proof

/-- The codes of table E0 of rule R15. -/
def TxFrequencyDivider.code (v : TxFrequencyDivider) : BitVec 3 :=
  match v with
  | .divideBy2 => 0
  | .divideBy4 => 1
  | .divideBy8 => 2
  | .divideBy16 => 3
  | .divideBy32 => 4
  | .divideBy64 => 5
  | .divideBy128 => 6
  | .divideBy256 => 7

/-- Every variant of `TxFrequencyDivider`. -/
def TxFrequencyDivider.variants : List TxFrequencyDivider :=
  [.divideBy2, .divideBy4, .divideBy8, .divideBy16, .divideBy32, .divideBy64, .divideBy128, .divideBy256]

/-- The codes of table E2 of rule R15. -/
def MeasurementCycles.code (v : MeasurementCycles) : BitVec 3 :=
  match v with
  | .cycles1 => 0
  | .cycles2 => 1
  | .cycles4 => 2
  | .cycles8 => 3
  | .cycles16 => 4
  | .cycles32 => 5
  | .cycles64 => 6
  | .cycles128 => 7

/-- Every variant of `MeasurementCycles`. -/
def MeasurementCycles.variants : List MeasurementCycles :=
  [.cycles1, .cycles2, .cycles4, .cycles8, .cycles16, .cycles32, .cycles64, .cycles128]

/-- The codes of table E3 of rule R15. -/
def ReceiveEvents.code (v : ReceiveEvents) : BitVec 3 :=
  match v with
  | .doNotCount => 0
  | .events1 => 1
  | .events2 => 2
  | .events3 => 3
  | .events4 => 4
  | .events5 => 5
  | .events6 => 6
  | .events7 => 7

/-- Every variant of `ReceiveEvents`. -/
def ReceiveEvents.variants : List ReceiveEvents :=
  [.doNotCount, .events1, .events2, .events3, .events4, .events5, .events6, .events7]

/-- The codes of field id 4 of rule R15. -/
def VoltageReference.code (v : VoltageReference) : BitVec 1 :=
  match v with
  | .internal => 0
  | .external => 1

/-- Every variant of `VoltageReference`. -/
def VoltageReference.variants : List VoltageReference :=
  [.internal, .external]

/-- The codes of field id 5 of rule R15. -/
def MeasurementMode.code (v : MeasurementMode) : BitVec 1 :=
  match v with
  | .timeOfFlight => 0
  | .temperature => 1

/-- Every variant of `MeasurementMode`. -/
def MeasurementMode.variants : List MeasurementMode :=
  [.timeOfFlight, .temperature]

/-- The codes of field ids 6, 7, 8, 14 and 24 of rule R15. -/
def Switch.code (v : Switch) : BitVec 1 :=
  match v with
  | .disable => 0
  | .enable => 1

/-- Every variant of `Switch`. -/
def Switch.variants : List Switch :=
  [.disable, .enable]

/-- The codes of field id 9 of rule R15. -/
def ChannelSelect.code (v : ChannelSelect) : BitVec 1 :=
  match v with
  | .channel1 => 0
  | .channel2 => 1

/-- Every variant of `ChannelSelect`. -/
def ChannelSelect.variants : List ChannelSelect :=
  [.channel1, .channel2]

/-- The codes of field id 10 of rule R15; code 3 has no variant. -/
def TofMeasMode.code (v : TofMeasMode) : BitVec 2 :=
  match v with
  | .mode0 => 0
  | .mode1 => 1
  | .mode2 => 2

/-- Every variant of `TofMeasMode`. -/
def TofMeasMode.variants : List TofMeasMode :=
  [.mode0, .mode1, .mode2]

/-- The codes of field id 11 of rule R15. -/
def TempMode.code (v : TempMode) : BitVec 1 :=
  match v with
  | .refRtd1Rtd2 => 0
  | .refRtd1 => 1

/-- Every variant of `TempMode`. -/
def TempMode.variants : List TempMode :=
  [.refRtd1Rtd2, .refRtd1]

/-- The codes of field id 12 of rule R15. -/
def TempRtdSelect.code (v : TempRtdSelect) : BitVec 1 :=
  match v with
  | .pt1000 => 0
  | .pt500 => 1

/-- Every variant of `TempRtdSelect`. -/
def TempRtdSelect.variants : List TempRtdSelect :=
  [.pt1000, .pt500]

/-- The codes of field id 13 of rule R15. -/
def TempClockDivider.code (v : TempClockDivider) : BitVec 1 :=
  match v with
  | .divideBy8 => 0
  | .useTxFrequencyDivider => 1

/-- Every variant of `TempClockDivider`. -/
def TempClockDivider.variants : List TempClockDivider :=
  [.divideBy8, .useTxFrequencyDivider]

/-- The codes of table E15 of rule R15. -/
def EchoThreshold.code (v : EchoThreshold) : BitVec 3 :=
  match v with
  | .mv35 => 0
  | .mv50 => 1
  | .mv75 => 2
  | .mv125 => 3
  | .mv220 => 4
  | .mv410 => 5
  | .mv775 => 6
  | .mv1500 => 7

/-- Every variant of `EchoThreshold`. -/
def EchoThreshold.variants : List EchoThreshold :=
  [.mv35, .mv50, .mv75, .mv125, .mv220, .mv410, .mv775, .mv1500]

/-- The codes of field id 16 of rule R15. -/
def ReceiveMode.code (v : ReceiveMode) : BitVec 1 :=
  match v with
  | .singleEcho => 0
  | .multiEcho => 1

/-- Every variant of `ReceiveMode`. -/
def ReceiveMode.variants : List ReceiveMode :=
  [.singleEcho, .multiEcho]

/-- The codes of field id 17 of rule R15. -/
def TriggerEdge.code (v : TriggerEdge) : BitVec 1 :=
  match v with
  | .risingEdge => 0
  | .fallingEdge => 1

/-- Every variant of `TriggerEdge`. -/
def TriggerEdge.variants : List TriggerEdge :=
  [.risingEdge, .fallingEdge]

/-- The codes of table E19 of rule R15. -/
def PgaGain.code (v : PgaGain) : BitVec 3 :=
  match v with
  | .db0 => 0
  | .db3 => 1
  | .db6 => 2
  | .db9 => 3
  | .db12 => 4
  | .db15 => 5
  | .db18 => 6
  | .db21 => 7

/-- Every variant of `PgaGain`. -/
def PgaGain.variants : List PgaGain :=
  [.db0, .db3, .db6, .db9, .db12, .db15, .db18, .db21]

/-- The codes of field ids 20 and 21 of rule R15. -/
def AmpControl.code (v : AmpControl) : BitVec 1 :=
  match v with
  | .active => 0
  | .bypassed => 1

/-- Every variant of `AmpControl`. -/
def AmpControl.variants : List AmpControl :=
  [.active, .bypassed]

/-- The codes of field id 22 of rule R15. -/
def LnaFeedback.code (v : LnaFeedback) : BitVec 1 :=
  match v with
  | .capacitive => 0
  | .resistive => 1

/-- Every variant of `LnaFeedback`. -/
def LnaFeedback.variants : List LnaFeedback :=
  [.capacitive, .resistive]

/-- The codes of table E25 of rule R15. -/
def ShortTofBlankPeriod.code (v : ShortTofBlankPeriod) : BitVec 3 :=
  match v with
  | .t0Times8 => 0
  | .t0Times16 => 1
  | .t0Times32 => 2
  | .t0Times64 => 3
  | .t0Times128 => 4
  | .t0Times256 => 5
  | .t0Times512 => 6
  | .t0Times1024 => 7

/-- Every variant of `ShortTofBlankPeriod`. -/
def ShortTofBlankPeriod.variants : List ShortTofBlankPeriod :=
  [.t0Times8, .t0Times16, .t0Times32, .t0Times64, .t0Times128, .t0Times256, .t0Times512, .t0Times1024]

/-- The codes of field id 26 of rule R15; Enable is 0 here. -/
def EchoTimeout.code (v : EchoTimeout) : BitVec 1 :=
  match v with
  | .enable => 0
  | .disable => 1

/-- Every variant of `EchoTimeout`. -/
def EchoTimeout.variants : List EchoTimeout :=
  [.enable, .disable]

/-- The codes of table E27 of rule R15. -/
def TofTimeoutControl.code (v : TofTimeoutControl) : BitVec 2 :=
  match v with
  | .t0Times128 => 0
  | .t0Times256 => 1
  | .t0Times512 => 2
  | .t0Times1024 => 3

/-- Every variant of `TofTimeoutControl`. -/
def TofTimeoutControl.variants : List TofTimeoutControl :=
  [.t0Times128, .t0Times256, .t0Times512, .t0Times1024]

/-- The codes of field id 28 of rule R15. -/
def ClockInDivider.code (v : ClockInDivider) : BitVec 1 :=
  match v with
  | .divideBy1 => 0
  | .divideBy2 => 1

/-- Every variant of `ClockInDivider`. -/
def ClockInDivider.variants : List ClockInDivider :=
  [.divideBy1, .divideBy2]

/-- The codes of table E29 of rule R15. -/
def AutoZeroPeriod.code (v : AutoZeroPeriod) : BitVec 2 :=
  match v with
  | .t0Times64 => 0
  | .t0Times128 => 1
  | .t0Times256 => 2
  | .t0Times512 => 3

/-- Every variant of `AutoZeroPeriod`. -/
def AutoZeroPeriod.variants : List AutoZeroPeriod :=
  [.t0Times64, .t0Times128, .t0Times256, .t0Times512]

/-- The register number of an address (spec R47). -/
def RegAddr.number (a : RegAddr) : Nat :=
  match a with
  | .config0 => 0
  | .config1 => 1
  | .config2 => 2
  | .config3 => 3
  | .config4 => 4
  | .tof1 => 5
  | .tof0 => 6
  | .errFlag => 7
  | .timeOut => 8
  | .clockRate => 9

/-- Every register address, in ascending order. -/
def RegAddr.variants : List RegAddr :=
  [.config0, .config1, .config2, .config3, .config4, .tof1, .tof0, .errFlag, .timeOut, .clockRate]

/-- The register with a given number; addresses 10 and above do not exist (spec R47). -/
def RegAddr.ofNumber (n : Nat) : Option RegAddr := RegAddr.variants.find? fun a => a.number == n

/-- The code a control-code name stands for (spec R23, decision D4). -/
def ErrControl.code (c : ErrControl) : BitVec 2 :=
  match c with
  | .noOp => 0
  | .resetFlagsAndPin => 1
  | .resetStateMachine => 2
  | .resetErrorStateMachineAndMeasurement => 3

/-- Every control code. -/
def ErrControl.variants : List ErrControl :=
  [.noOp, .resetFlagsAndPin, .resetStateMachine, .resetErrorStateMachineAndMeasurement]

/-- The variant whose code is `imm`, if one is listed (spec R74): a search of the code table. -/
def variantOf {α : Type} {w : Nat} (variants : List α) (code : α → BitVec w) (imm : BitVec 16) : Option α :=
  variants.find? fun v => (code v).setWidth 16 == imm

/-- `WRITE_BIT`, OR'd into the address byte of a write (spec R6, R63). -/
def writeBit : Byte := 0x40

/-- `FILLER`, the second byte sent in a read (spec R6, R65). -/
def filler : Byte := 0xFF

/-- The bare address byte of a register (spec R63). -/
def RegAddr.byte (a : RegAddr) : Byte := BitVec.ofNat 8 a.number

/-- The two bytes of a write frame, `[a | 0x40, v]` (spec R64). -/
def writeFrame (a : RegAddr) (v : Byte) : Byte × Byte := (a.byte ||| writeBit, v)

/-- The two bytes of a read frame, `[a, 0xFF]` (spec R65). -/
def readFrame (a : RegAddr) : Byte × Byte := (a.byte, filler)

/-- Whether the unit can send `v` to `a` in a write frame: a packed image of that register (its reserved
bits are 0 and `tof_meas_mode` is not 3; spec R26, R85, R247) or, for ErrFlag, a control code (R66). -/
def RegAddr.sends (a : RegAddr) (v : Byte) : Bool :=
  match a with
  | .config0 => true
  | .config1 => v.extractLsb' 6 2 == 0
  | .config2 => v.extractLsb' 0 2 != 3
  | .config3 => v.extractLsb' 7 1 == 0
  | .config4 => v.extractLsb' 7 1 == 0
  | .tof1 => true
  | .tof0 => true
  | .errFlag => v.extractLsb' 2 6 == 0
  | .timeOut => v.extractLsb' 7 1 == 0
  | .clockRate => v.extractLsb' 3 5 == 0

end Sys2Proof
end

