-- ==== Sys2Proof/WellFormed.lean ====
section
/-! DEFINITION. Which instructions have an encoding: an enumerated operand, an address and a control
code always do; the raw integer of a clamped setter must fit 16 bits (spec R74, U23), and the byte of a
write frame must be one the unit can send (R64, R66). -/

namespace Sys2Proof

/-- `raw` is the value of some 16-bit two's-complement `imm` (spec R74: "from -32768 to 32767"). -/
def fitsImm (raw : Int) : Bool := decide (-32768 ≤ raw) && decide (raw ≤ 32767)

/-- Whether an instruction can be written as a word. -/
def Instr.wellFormed (i : Instr) : Bool :=
  match i with
  | .setTxFrequencyDivider _ => true
  | .setTxPulses raw => fitsImm raw
  | .setMeasurementCycles _ => true
  | .setReceiveEvents _ => true
  | .setVoltageReference _ => true
  | .setMeasurementMode _ => true
  | .setDamping _ => true
  | .setChannelSwap _ => true
  | .setExternalChannelSelect _ => true
  | .setChannelSelect _ => true
  | .setTofMeasMode _ => true
  | .setTempMode _ => true
  | .setTempRtdSelect _ => true
  | .setTempClockDivider _ => true
  | .setPowerBlanking _ => true
  | .setEchoQualificationThreshold _ => true
  | .setReceiveMode _ => true
  | .setTriggerEdgePolarity _ => true
  | .setTxPulseShiftPosition raw => fitsImm raw
  | .setPgaGain _ => true
  | .setPgaControl _ => true
  | .setLnaControl _ => true
  | .setLnaFeedback _ => true
  | .setTofValue raw => fitsImm raw
  | .setForceShortTof _ => true
  | .setShortTofBlankPeriod _ => true
  | .setEchoTimeout _ => true
  | .setTofTimeoutControl _ => true
  | .setClockInDivider _ => true
  | .setAutoZeroPeriod _ => true
  | .getbConfig0 => true
  | .getbConfig1 => true
  | .getbConfig2 => true
  | .getbConfig3 => true
  | .getbConfig4 => true
  | .getbTof1 => true
  | .getbTof0 => true
  | .getbTimeOut => true
  | .getbClockRate => true
  | .rdreg _ => true
  | .wrerr _ => true
  | .wrall => true
  | .rdall => true
  | .rderr => true
  | .frameW a v => a.sends v
  | .frameR _ => true

/-- The instruction has an encoding. -/
abbrev WellFormed (i : Instr) : Prop := i.wellFormed = true

end Sys2Proof
end

