-- ==== Sys2Proof/Decode.lean ====
section
/-! DEFINITION. The decoder of command words (spec R72 to R77, R86) and of the frames of the two
transfer primitives (R63 to R66), total on every word and refusing by name; then the encoder, written
from the same tables. -/

namespace Sys2Proof

/-- Why a word spells no instruction: the cases of spec R86, and those of a frame no rule emits (R66). -/
inductive DecodeError where
  /-- `op` = 7. -/
  | reservedOp
  /-- `op` = 0 with `sel` 30 or 31. -/
  | noSuchField
  /-- `op` = 0 on an enumerated field with an `imm` that is not a listed code. -/
  | unlistedCode
  /-- `op` = 1 with `sel` = 7: ErrFlag has no image. -/
  | noImage
  /-- `op` = 1 or 2 with `sel` above 9, or a frame with such an address. -/
  | noSuchRegister
  /-- `op` = 3 with `imm` above 3. -/
  | noSuchControlCode
  /-- `sel` not 0 where the format does not use it. -/
  | unusedSel
  /-- `imm` not 0 where the format does not use it. -/
  | unusedImm
  /-- Bit 7 of a frame's address byte set. -/
  | frameTopBit
  /-- A read frame whose second byte is not 0xFF. -/
  | frameFiller
  /-- A write frame whose second byte is no image of its register and no control code. -/
  | frameData
deriving DecidableEq, Repr

/-- `cmd[23:21]` (spec R72). -/
def opOf (w : CommandWord) : BitVec 3 := w.extractLsb' 21 3

/-- `cmd[20:16]` (spec R72). -/
def selOf (w : CommandWord) : BitVec 5 := w.extractLsb' 16 5

/-- `cmd[15:0]` (spec R72). -/
def immOf (w : CommandWord) : BitVec 16 := w.extractLsb' 0 16

/-- An enumerated operand found or refused (spec R74). -/
def enumerated {α : Type} (v : Option α) (mk : α → Instr) : Except DecodeError Instr :=
  match v with
  | some v => .ok (mk v)
  | none => .error .unlistedCode

/-- Format CMD_SET, `op` = 0 (spec R74): the field id selects the setter. The operand of a clamped
field is `sext_16(imm)`. -/
def decodeSet (sel : BitVec 5) (imm : BitVec 16) : Except DecodeError Instr :=
  match sel.toNat with
  | 0 => enumerated (variantOf TxFrequencyDivider.variants TxFrequencyDivider.code imm) .setTxFrequencyDivider
  | 1 => .ok (.setTxPulses imm.toInt)
  | 2 => enumerated (variantOf MeasurementCycles.variants MeasurementCycles.code imm) .setMeasurementCycles
  | 3 => enumerated (variantOf ReceiveEvents.variants ReceiveEvents.code imm) .setReceiveEvents
  | 4 => enumerated (variantOf VoltageReference.variants VoltageReference.code imm) .setVoltageReference
  | 5 => enumerated (variantOf MeasurementMode.variants MeasurementMode.code imm) .setMeasurementMode
  | 6 => enumerated (variantOf Switch.variants Switch.code imm) .setDamping
  | 7 => enumerated (variantOf Switch.variants Switch.code imm) .setChannelSwap
  | 8 => enumerated (variantOf Switch.variants Switch.code imm) .setExternalChannelSelect
  | 9 => enumerated (variantOf ChannelSelect.variants ChannelSelect.code imm) .setChannelSelect
  | 10 => enumerated (variantOf TofMeasMode.variants TofMeasMode.code imm) .setTofMeasMode
  | 11 => enumerated (variantOf TempMode.variants TempMode.code imm) .setTempMode
  | 12 => enumerated (variantOf TempRtdSelect.variants TempRtdSelect.code imm) .setTempRtdSelect
  | 13 => enumerated (variantOf TempClockDivider.variants TempClockDivider.code imm) .setTempClockDivider
  | 14 => enumerated (variantOf Switch.variants Switch.code imm) .setPowerBlanking
  | 15 => enumerated (variantOf EchoThreshold.variants EchoThreshold.code imm) .setEchoQualificationThreshold
  | 16 => enumerated (variantOf ReceiveMode.variants ReceiveMode.code imm) .setReceiveMode
  | 17 => enumerated (variantOf TriggerEdge.variants TriggerEdge.code imm) .setTriggerEdgePolarity
  | 18 => .ok (.setTxPulseShiftPosition imm.toInt)
  | 19 => enumerated (variantOf PgaGain.variants PgaGain.code imm) .setPgaGain
  | 20 => enumerated (variantOf AmpControl.variants AmpControl.code imm) .setPgaControl
  | 21 => enumerated (variantOf AmpControl.variants AmpControl.code imm) .setLnaControl
  | 22 => enumerated (variantOf LnaFeedback.variants LnaFeedback.code imm) .setLnaFeedback
  | 23 => .ok (.setTofValue imm.toInt)
  | 24 => enumerated (variantOf Switch.variants Switch.code imm) .setForceShortTof
  | 25 => enumerated (variantOf ShortTofBlankPeriod.variants ShortTofBlankPeriod.code imm) .setShortTofBlankPeriod
  | 26 => enumerated (variantOf EchoTimeout.variants EchoTimeout.code imm) .setEchoTimeout
  | 27 => enumerated (variantOf TofTimeoutControl.variants TofTimeoutControl.code imm) .setTofTimeoutControl
  | 28 => enumerated (variantOf ClockInDivider.variants ClockInDivider.code imm) .setClockInDivider
  | 29 => enumerated (variantOf AutoZeroPeriod.variants AutoZeroPeriod.code imm) .setAutoZeroPeriod
  | _ => .error .noSuchField

/-- Format CMD_REG, `op` = 1 (spec R75): nine image addresses; ErrFlag has none. -/
def decodeGetb (sel : BitVec 5) (imm : BitVec 16) : Except DecodeError Instr :=
  if imm ≠ 0 then .error .unusedImm
  else
    match sel.toNat with
    | 0 => .ok .getbConfig0
    | 1 => .ok .getbConfig1
    | 2 => .ok .getbConfig2
    | 3 => .ok .getbConfig3
    | 4 => .ok .getbConfig4
    | 5 => .ok .getbTof1
    | 6 => .ok .getbTof0
    | 7 => .error .noImage
    | 8 => .ok .getbTimeOut
    | 9 => .ok .getbClockRate
    | _ => .error .noSuchRegister

/-- Format CMD_REG, `op` = 2 (spec R75): any of the ten addresses. -/
def decodeRdreg (sel : BitVec 5) (imm : BitVec 16) : Except DecodeError Instr :=
  if imm ≠ 0 then .error .unusedImm
  else
    match RegAddr.ofNumber sel.toNat with
    | some a => .ok (.rdreg a)
    | none => .error .noSuchRegister

/-- Format CMD_IMM, `op` = 3 (spec R76). -/
def decodeWrerr (sel : BitVec 5) (imm : BitVec 16) : Except DecodeError Instr :=
  if sel ≠ 0 then .error .unusedSel
  else
    match variantOf ErrControl.variants ErrControl.code imm with
    | some c => .ok (.wrerr c)
    | none => .error .noSuchControlCode

/-- Format CMD_NONE, `op` = 4, 5 or 6 (spec R77). -/
def decodeNone (sel : BitVec 5) (imm : BitVec 16) (i : Instr) : Except DecodeError Instr :=
  if sel ≠ 0 then .error .unusedSel else if imm ≠ 0 then .error .unusedImm else .ok i

/-- The instruction a command word spells (spec R73, R86). -/
def decodeCommand (w : CommandWord) : Except DecodeError Instr :=
  match (opOf w).toNat with
  | 0 => decodeSet (selOf w) (immOf w)
  | 1 => decodeGetb (selOf w) (immOf w)
  | 2 => decodeRdreg (selOf w) (immOf w)
  | 3 => decodeWrerr (selOf w) (immOf w)
  | 4 => decodeNone (selOf w) (immOf w) .wrall
  | 5 => decodeNone (selOf w) (immOf w) .rdall
  | 6 => decodeNone (selOf w) (immOf w) .rderr
  | _ => .error .reservedOp

/-- `tx[0]`, bits 15:8 of a frame (spec R64). -/
def txAddress (w : FrameWord) : Byte := w.extractLsb' 8 8

/-- `tx[1]`, bits 7:0 of a frame (spec R64). -/
def txData (w : FrameWord) : Byte := w.extractLsb' 0 8

/-- The primitive a frame belongs to (spec R63 to R66): bit 7 of the address byte is 0, bit 6 tells a
write from a read, bits 5:0 are a register address, a write carries a byte the unit can send there and a
read carries the filler. -/
def decodeFrame (w : FrameWord) : Except DecodeError Instr :=
  if (txAddress w).extractLsb' 7 1 ≠ 0 then .error .frameTopBit
  else
    match RegAddr.ofNumber ((txAddress w).extractLsb' 0 6).toNat with
    | none => .error .noSuchRegister
    | some a =>
      if (txAddress w).extractLsb' 6 1 = 1 then
        if a.sends (txData w) then .ok (.frameW a (txData w)) else .error .frameData
      else if txData w = filler then .ok (.frameR a)
      else .error .frameFiller

/-- The decoder, total on every command word and every frame. -/
def decode (w : InstrWord) : Except DecodeError Instr :=
  match w with
  | .command c => decodeCommand c
  | .frame f => decodeFrame f

/-- The encoding at an opcode-table row: 16-bit rows are frames, the others command words. -/
def instrWordOf (nbits w : Nat) : InstrWord :=
  if nbits = 16 then .frame (BitVec.ofNat 16 w) else .command (BitVec.ofNat 24 w)

/-- The instruction the decoder reads from an opcode-table word of `nbits` bits. -/
def decodeTableWord (nbits w : Nat) : Option Instr := (decode (instrWordOf nbits w)).toOption

/-- A command word from its three fields (spec R72). -/
def commandWord (op : BitVec 3) (sel : BitVec 5) (imm : BitVec 16) : CommandWord := op ++ sel ++ imm

/-- A frame word from its two bytes (spec R64). -/
def frameWord (tx : Byte × Byte) : FrameWord := tx.1 ++ tx.2

/-- The word of a setter (spec R73: `0x000000 + (id << 16) + imm`). -/
def encodeSet (id : BitVec 5) (imm : BitVec 16) : InstrWord := .command (commandWord 0 id imm)

/-- The encoder: the one word of a well-formed instruction (spec R72, R73). -/
def encode (i : Instr) : InstrWord :=
  match i with
  | .setTxFrequencyDivider v => encodeSet 0 (v.code.setWidth 16)
  | .setTxPulses raw => encodeSet 1 (BitVec.ofInt 16 raw)
  | .setMeasurementCycles v => encodeSet 2 (v.code.setWidth 16)
  | .setReceiveEvents v => encodeSet 3 (v.code.setWidth 16)
  | .setVoltageReference v => encodeSet 4 (v.code.setWidth 16)
  | .setMeasurementMode v => encodeSet 5 (v.code.setWidth 16)
  | .setDamping v => encodeSet 6 (v.code.setWidth 16)
  | .setChannelSwap v => encodeSet 7 (v.code.setWidth 16)
  | .setExternalChannelSelect v => encodeSet 8 (v.code.setWidth 16)
  | .setChannelSelect v => encodeSet 9 (v.code.setWidth 16)
  | .setTofMeasMode v => encodeSet 10 (v.code.setWidth 16)
  | .setTempMode v => encodeSet 11 (v.code.setWidth 16)
  | .setTempRtdSelect v => encodeSet 12 (v.code.setWidth 16)
  | .setTempClockDivider v => encodeSet 13 (v.code.setWidth 16)
  | .setPowerBlanking v => encodeSet 14 (v.code.setWidth 16)
  | .setEchoQualificationThreshold v => encodeSet 15 (v.code.setWidth 16)
  | .setReceiveMode v => encodeSet 16 (v.code.setWidth 16)
  | .setTriggerEdgePolarity v => encodeSet 17 (v.code.setWidth 16)
  | .setTxPulseShiftPosition raw => encodeSet 18 (BitVec.ofInt 16 raw)
  | .setPgaGain v => encodeSet 19 (v.code.setWidth 16)
  | .setPgaControl v => encodeSet 20 (v.code.setWidth 16)
  | .setLnaControl v => encodeSet 21 (v.code.setWidth 16)
  | .setLnaFeedback v => encodeSet 22 (v.code.setWidth 16)
  | .setTofValue raw => encodeSet 23 (BitVec.ofInt 16 raw)
  | .setForceShortTof v => encodeSet 24 (v.code.setWidth 16)
  | .setShortTofBlankPeriod v => encodeSet 25 (v.code.setWidth 16)
  | .setEchoTimeout v => encodeSet 26 (v.code.setWidth 16)
  | .setTofTimeoutControl v => encodeSet 27 (v.code.setWidth 16)
  | .setClockInDivider v => encodeSet 28 (v.code.setWidth 16)
  | .setAutoZeroPeriod v => encodeSet 29 (v.code.setWidth 16)
  | .getbConfig0 => .command (commandWord 1 0 0)
  | .getbConfig1 => .command (commandWord 1 1 0)
  | .getbConfig2 => .command (commandWord 1 2 0)
  | .getbConfig3 => .command (commandWord 1 3 0)
  | .getbConfig4 => .command (commandWord 1 4 0)
  | .getbTof1 => .command (commandWord 1 5 0)
  | .getbTof0 => .command (commandWord 1 6 0)
  | .getbTimeOut => .command (commandWord 1 8 0)
  | .getbClockRate => .command (commandWord 1 9 0)
  | .rdreg a => .command (commandWord 2 (BitVec.ofNat 5 a.number) 0)
  | .wrerr c => .command (commandWord 3 0 (c.code.setWidth 16))
  | .wrall => .command (commandWord 4 0 0)
  | .rdall => .command (commandWord 5 0 0)
  | .rderr => .command (commandWord 6 0 0)
  | .frameW a v => .frame (frameWord (writeFrame a v))
  | .frameR a => .frame (frameWord (readFrame a))

end Sys2Proof
end

