-- ==== Sys2Proof/Machine/Mirror.lean ====
section
/-! DEFINITION. The mirror: the thirty field registers (spec R14, R15), each holding a variant of its
closed enumeration or a number of the minimum width for its range, so that no illegal value can be
held (R14); their power-on values (`RESET_FIELDS`, R15, R35); and the integer each reads as in
pseudocode (R11). -/

namespace Sys2Proof.Machine

/-- The thirty field registers (spec R15), named as the spec names them. -/
structure Mirror where
  /-- Field id 0, `tx_frequency_divider`. -/
  txFrequencyDivider : TxFrequencyDivider
  /-- Field id 1, `tx_pulses`. -/
  txPulses : BitVec 5
  /-- Field id 2, `measurement_cycles`. -/
  measurementCycles : MeasurementCycles
  /-- Field id 3, `receive_events`. -/
  receiveEvents : ReceiveEvents
  /-- Field id 4, `voltage_reference`. -/
  voltageReference : VoltageReference
  /-- Field id 5, `measurement_mode`. -/
  measurementMode : MeasurementMode
  /-- Field id 6, `damping`. -/
  damping : Switch
  /-- Field id 7, `channel_swap`. -/
  channelSwap : Switch
  /-- Field id 8, `external_channel_select`. -/
  externalChannelSelect : Switch
  /-- Field id 9, `channel_select`. -/
  channelSelect : ChannelSelect
  /-- Field id 10, `tof_meas_mode`. -/
  tofMeasMode : TofMeasMode
  /-- Field id 11, `temp_mode`. -/
  tempMode : TempMode
  /-- Field id 12, `temp_rtd_select`. -/
  tempRtdSelect : TempRtdSelect
  /-- Field id 13, `temp_clock_divider`. -/
  tempClockDivider : TempClockDivider
  /-- Field id 14, `power_blanking`. -/
  powerBlanking : Switch
  /-- Field id 15, `echo_qualification_threshold`. -/
  echoQualificationThreshold : EchoThreshold
  /-- Field id 16, `receive_mode`. -/
  receiveMode : ReceiveMode
  /-- Field id 17, `trigger_edge_polarity`. -/
  triggerEdgePolarity : TriggerEdge
  /-- Field id 18, `tx_pulse_shift_position`. -/
  txPulseShiftPosition : BitVec 5
  /-- Field id 19, `pga_gain`. -/
  pgaGain : PgaGain
  /-- Field id 20, `pga_control`. -/
  pgaControl : AmpControl
  /-- Field id 21, `lna_control`. -/
  lnaControl : AmpControl
  /-- Field id 22, `lna_feedback`. -/
  lnaFeedback : LnaFeedback
  /-- Field id 23, `tof_value`. -/
  tofValue : BitVec 10
  /-- Field id 24, `force_short_tof`. -/
  forceShortTof : Switch
  /-- Field id 25, `short_tof_blank_period`. -/
  shortTofBlankPeriod : ShortTofBlankPeriod
  /-- Field id 26, `echo_timeout`. -/
  echoTimeout : EchoTimeout
  /-- Field id 27, `tof_timeout_control`. -/
  tofTimeoutControl : TofTimeoutControl
  /-- Field id 28, `clock_in_divider`. -/
  clockInDivider : ClockInDivider
  /-- Field id 29, `auto_zero_period`. -/
  autoZeroPeriod : AutoZeroPeriod
deriving DecidableEq, Repr

/-- `RESET_FIELDS`: the power-on values of spec R15. Those R15 marks G are PRESUMED there and here
(unsafe): assumption log 5. -/
def resetFields : Mirror where
  txFrequencyDivider := .divideBy8
  txPulses := 5
  measurementCycles := .cycles1
  receiveEvents := .doNotCount
  voltageReference := .internal
  measurementMode := .timeOfFlight
  damping := .disable
  channelSwap := .disable
  externalChannelSelect := .disable
  channelSelect := .channel1
  tofMeasMode := .mode0
  tempMode := .refRtd1Rtd2
  tempRtdSelect := .pt1000
  tempClockDivider := .divideBy8
  powerBlanking := .disable
  echoQualificationThreshold := .mv125
  receiveMode := .singleEcho
  triggerEdgePolarity := .risingEdge
  txPulseShiftPosition := 31
  pgaGain := .db0
  pgaControl := .active
  lnaControl := .active
  lnaFeedback := .capacitive
  tofValue := 0
  forceShortTof := .disable
  shortTofBlankPeriod := .t0Times64
  echoTimeout := .enable
  tofTimeoutControl := .t0Times256
  clockInDivider := .divideBy1
  autoZeroPeriod := .t0Times64

/-- The selector of a field register: the rows of spec R15 in order of their ids. -/
inductive FieldId where
  | txFrequencyDivider
  | txPulses
  | measurementCycles
  | receiveEvents
  | voltageReference
  | measurementMode
  | damping
  | channelSwap
  | externalChannelSelect
  | channelSelect
  | tofMeasMode
  | tempMode
  | tempRtdSelect
  | tempClockDivider
  | powerBlanking
  | echoQualificationThreshold
  | receiveMode
  | triggerEdgePolarity
  | txPulseShiftPosition
  | pgaGain
  | pgaControl
  | lnaControl
  | lnaFeedback
  | tofValue
  | forceShortTof
  | shortTofBlankPeriod
  | echoTimeout
  | tofTimeoutControl
  | clockInDivider
  | autoZeroPeriod
deriving DecidableEq, Repr

/-- `F.<name>` (spec R11): the field's integer code or clamped number. -/
def Mirror.value (m : Mirror) (f : FieldId) : Nat :=
  match f with
  | .txFrequencyDivider => m.txFrequencyDivider.code.toNat
  | .txPulses => m.txPulses.toNat
  | .measurementCycles => m.measurementCycles.code.toNat
  | .receiveEvents => m.receiveEvents.code.toNat
  | .voltageReference => m.voltageReference.code.toNat
  | .measurementMode => m.measurementMode.code.toNat
  | .damping => m.damping.code.toNat
  | .channelSwap => m.channelSwap.code.toNat
  | .externalChannelSelect => m.externalChannelSelect.code.toNat
  | .channelSelect => m.channelSelect.code.toNat
  | .tofMeasMode => m.tofMeasMode.code.toNat
  | .tempMode => m.tempMode.code.toNat
  | .tempRtdSelect => m.tempRtdSelect.code.toNat
  | .tempClockDivider => m.tempClockDivider.code.toNat
  | .powerBlanking => m.powerBlanking.code.toNat
  | .echoQualificationThreshold => m.echoQualificationThreshold.code.toNat
  | .receiveMode => m.receiveMode.code.toNat
  | .triggerEdgePolarity => m.triggerEdgePolarity.code.toNat
  | .txPulseShiftPosition => m.txPulseShiftPosition.toNat
  | .pgaGain => m.pgaGain.code.toNat
  | .pgaControl => m.pgaControl.code.toNat
  | .lnaControl => m.lnaControl.code.toNat
  | .lnaFeedback => m.lnaFeedback.code.toNat
  | .tofValue => m.tofValue.toNat
  | .forceShortTof => m.forceShortTof.code.toNat
  | .shortTofBlankPeriod => m.shortTofBlankPeriod.code.toNat
  | .echoTimeout => m.echoTimeout.code.toNat
  | .tofTimeoutControl => m.tofTimeoutControl.code.toNat
  | .clockInDivider => m.clockInDivider.code.toNat
  | .autoZeroPeriod => m.autoZeroPeriod.code.toNat

end Sys2Proof.Machine
end

