-- ==== Sys2Proof/Machine/State.lean ====
section
/-! DEFINITION. The state of the unit (spec R13 to R35) as plain data, the reasons a step can stop, and
the machine right after reset. Fields the spec does not give the unit are marked MODEL. -/

namespace Sys2Proof.Machine

/-- The unit's record of the select line (spec R32). -/
inductive SelLine where
  | active | inactive | unknown
deriving DecidableEq, Repr

/-- The position inside one transaction (spec R28). -/
inductive Phase where
  | idle | assert | xfer | deassert
deriving DecidableEq, Repr

/-- The status of a result record (spec R31, R205). -/
inductive Status where
  | ok | selectErr | busErr | illegal
deriving DecidableEq, Repr

/-- What a transaction raises (spec R200): the two error kinds with their payloads. -/
inductive Raise where
  /-- `SelectErr(e)`, spec R201. -/
  | select (e : SelErr)
  /-- `BusErr(e)`, spec R202. -/
  | bus (e : BusErr)
deriving DecidableEq, Repr

/-- The error-flag snapshot (spec R33). -/
structure Snapshot where
  signalWeak : Bool
  noSignal : Bool
  signalHigh : Bool
deriving DecidableEq, Repr

/-- The result record (spec R31). A part that is not defined holds no value. -/
structure Result where
  status : Status
  err : Option Raise
  data : Option Byte
  buf : Option (Vector Byte 10)
  flags : Option Snapshot
deriving DecidableEq, Repr

/-- One capability call with its argument and its answer (spec R34 (c)). -/
inductive TraceEntry where
  | selAssert (answer : Except SelErr Unit)
  | selDeassert (answer : Except SelErr Unit)
  | write (tx : Byte × Byte) (answer : Except BusErr Unit)
  | exchange (tx : Byte × Byte) (answer : Except BusErr (Byte × Byte))
deriving DecidableEq, Repr

/-- MODEL: the environment (spec R7, R8). Its answer to its n-th call is the n-th entry of `script`,
and a free value where the script ends; `calls` counts the calls answered so far (assumption log 1). -/
structure Env where
  script : List Draw
  calls : Nat
deriving DecidableEq, Repr

/-- MODEL: what the host offers the unit between commands: a 24-bit command word, or the reset input `RST`
(spec R9, R72, R230; assumption log 13). A transfer primitive is no input (R91). -/
inductive Input where
  | word (w : CommandWord)
  | rst
deriving DecidableEq, Repr

/-- The state of the unit. -/
structure State where
  /-- The thirty field registers `F.*` (spec R14, R15). -/
  mirror : Mirror
  /-- True from the acceptance of a command until its result is presented (spec R27). -/
  busy : Bool
  /-- The index of the next transaction of a composite command (spec R27). -/
  seq : Nat
  /-- The position inside the transaction in progress (spec R28). -/
  phase : Phase
  /-- The failure of the transfer while the deassert step runs (spec R29). -/
  pend : Option BusErr
  /-- The ten-byte output buffer of `RDALL` (spec R30). -/
  rxbuf : Vector Byte 10
  /-- `SEL`, the record of the select line (spec R32). -/
  sel : SelLine
  /-- The last result record presented (spec R31). -/
  result : Option Result
  /-- The observer's recording of every capability call, oldest first (spec R34 (c); assumption log 18). -/
  trace : List TraceEntry
  /-- MODEL: the environment's answers to come. -/
  env : Env
  /-- MODEL: the inputs the host has yet to offer, next first. -/
  port : List Input
  /-- MODEL: the frame of a transfer primitive placed to be run by itself. No input of the host and no
  step places one; it is empty at reset (spec R91; assumption log 15). -/
  primitive : Option FrameWord
deriving DecidableEq, Repr

/-- Why a step can stop with a fault. -/
inductive Fault where
  /-- Raised by the command port when `RST` comes while a command is in progress, which the spec leaves
  undefined (R233: "a model gives `RST` a step only when `busy` is false"). Safe: the model stops where
  a unit might go on (assumption log 14). -/
  | resetWhileBusy
deriving DecidableEq, Repr

/-- Why a step can be refused. -/
inductive Refusal where
  /-- Raised by an arm of `exec` whose instruction has no meaning yet; no arm does so now. Safe. -/
  | notModelled (mnemonic : String)
deriving DecidableEq, Repr

/-- The unit right after reset (spec R35, R231): the idle state. `rxbuf` is unspecified there and zero
here (DESIGN CHOICE, unsafe: assumption log 8); nothing is scripted, offered or placed (logs 1, 13, 15). -/
def State.reset : State where
  mirror := resetFields
  busy := false
  seq := 0
  phase := .idle
  pend := none
  rxbuf := Vector.replicate 10 0
  sel := .inactive
  result := none
  trace := []
  env := { script := [], calls := 0 }
  port := []
  primitive := none

end Sys2Proof.Machine
end

