-- ==== Sys2Proof/Machine/Flags.lean ====
section
/-! DEFINITION. The only flags of the unit: the error-flag snapshot unpacked from a status byte (spec
R33, R150). -/

namespace Sys2Proof.Machine

/-- `unpack_status(b)` (spec R150): each known bit tested independently, bits 7:3 ignored. -/
def unpackStatus (b : Byte) : Snapshot where
  signalWeak := b.getLsbD 2
  noSignal := b.getLsbD 1
  signalHigh := b.getLsbD 0

end Sys2Proof.Machine
end

