-- ==== Sys2Proof/Machine/Operands.lean ====
section
/-! DEFINITION. Operand assembly (spec R81 to R84): saturation of a clamped operand, the split of
`tof_value`, and the placing of a contribution in an image. -/

namespace Sys2Proof.Machine

/-- `clamp(v, lo, hi)` (spec R10). -/
def clamp (v lo hi : Int) : Int := if v < lo then lo else if hi < v then hi else v

/-- The number a pulse-count setter stores: `clamp(raw, 0, 31)` in 5 bits (spec R81, R103, R120). -/
def pulseCount (raw : Int) : BitVec 5 := BitVec.ofNat 5 (clamp raw 0 31).toNat

/-- The number `SET.tof_value` stores: `clamp(raw, 0, 1023)` in 10 bits (spec R81, R125). -/
def tofNumber (raw : Int) : BitVec 10 := BitVec.ofNat 10 (clamp raw 0 1023).toNat

/-- `tof_value[9:8]`, the contribution to Tof1 (spec R83). -/
def tofHigh (t : BitVec 10) : BitVec 2 := t.extractLsb' 8 2

/-- `tof_value[7:0]`, the contribution to Tof0 (spec R83). -/
def tofLow (t : BitVec 10) : BitVec 8 := t.extractLsb' 0 8

/-- A contribution shifted left by its field's offset (spec R68, R140). -/
def place {w : Nat} (v : BitVec w) (offset : Nat) : Byte := v.setWidth 8 <<< offset

end Sys2Proof.Machine
end

