-- ==== Sys2Proof/Machine/Pack.lean ====
section
/-! DEFINITION. The nine pack functions (spec R140 to R149): each field's contribution shifted to its
offset and OR'd; reserved bits are 0 because nothing is placed there (R26). -/

namespace Sys2Proof.Machine

/-- The image of address 0 (spec R141). -/
def packConfig0 (m : Mirror) : Byte :=
  place m.txFrequencyDivider.code 5 ||| place m.txPulses 0

/-- The image of address 1 (spec R142). Bits 7:6 are 0. -/
def packConfig1 (m : Mirror) : Byte :=
  place m.measurementCycles.code 3 ||| place m.receiveEvents.code 0

/-- The image of address 2 (spec R143). -/
def packConfig2 (m : Mirror) : Byte :=
  place m.voltageReference.code 7 ||| place m.measurementMode.code 6 ||| place m.damping.code 5 |||
    place m.channelSwap.code 4 ||| place m.externalChannelSelect.code 3 |||
    place m.channelSelect.code 2 ||| place m.tofMeasMode.code 0

/-- The image of address 3 (spec R144). Bit 7 is 0. -/
def packConfig3 (m : Mirror) : Byte :=
  place m.tempMode.code 6 ||| place m.tempRtdSelect.code 5 ||| place m.tempClockDivider.code 4 |||
    place m.powerBlanking.code 3 ||| place m.echoQualificationThreshold.code 0

/-- The image of address 4 (spec R145). Bit 7 is 0. -/
def packConfig4 (m : Mirror) : Byte :=
  place m.receiveMode.code 6 ||| place m.triggerEdgePolarity.code 5 |||
    place m.txPulseShiftPosition 0

/-- The image of address 5 (spec R146). -/
def packTof1 (m : Mirror) : Byte :=
  place m.pgaGain.code 5 ||| place m.pgaControl.code 4 ||| place m.lnaControl.code 3 |||
    place m.lnaFeedback.code 2 ||| place (tofHigh m.tofValue) 0

/-- The image of address 6 (spec R147). -/
def packTof0 (m : Mirror) : Byte :=
  tofLow m.tofValue

/-- The image of address 8 (spec R148). Bit 7 is 0. -/
def packTimeOut (m : Mirror) : Byte :=
  place m.forceShortTof.code 6 ||| place m.shortTofBlankPeriod.code 3 |||
    place m.echoTimeout.code 2 ||| place m.tofTimeoutControl.code 0

/-- The image of address 9 (spec R149). Bits 7:3 are 0. -/
def packClockRate (m : Mirror) : Byte :=
  place m.clockInDivider.code 2 ||| place m.autoZeroPeriod.code 0

/-- `ORDER_W` with `IMAGE` (spec R190): the nine addresses `WRALL` writes, in order, each with its pack
function. Address 7 is absent. -/
def writeOrder : List (RegAddr × (Mirror → Byte)) :=
  [(.config0, packConfig0),
    (.config1, packConfig1),
    (.config2, packConfig2),
    (.config3, packConfig3),
    (.config4, packConfig4),
    (.tof1, packTof1),
    (.tof0, packTof0),
    (.timeOut, packTimeOut),
    (.clockRate, packClockRate)]

/-- `ORDER_R` (spec R190): the ten addresses `RDALL` reads, in order. -/
def readOrder : List RegAddr :=
  [.config0, .config1, .config2, .config3, .config4, .tof1, .tof0, .errFlag, .timeOut, .clockRate]

end Sys2Proof.Machine
end

