-- ==== Sys2Proof/Machine/Ops.lean ====
section
/-! DEFINITION. The named operations: result records (spec R31), the command's start and end (R27), the
entry of an error (R209), the four capability calls (R8), the transaction (R170) and the two
primitives `WR` and `RD` (R171, R172), and the two composite loops (R191, R194).

There is no return from an error to stand beside its entry: "There is no return instruction because
there is nothing to return from" (R210). -/

namespace Sys2Proof.Machine

/-! ### Result records -/

/-- The number of a status (spec R31, R205). -/
def Status.code (s : Status) : Nat :=
  match s with
  | .ok => 0
  | .selectErr => 1
  | .busErr => 2
  | .illegal => 3

/-- Status OK with no other part. -/
def Result.done : Result := { status := .ok, err := none, data := none, buf := none, flags := none }

/-- Status OK with a byte. -/
def Result.byte (b : Byte) : Result := { Result.done with data := some b }

/-- Status OK with the ten bytes of `RDALL`. -/
def Result.buffer (v : Vector Byte 10) : Result := { Result.done with buf := some v }

/-- Status OK with the snapshot of `RDERR`. -/
def Result.snapshot (f : Snapshot) : Result := { Result.done with flags := some f }

/-- The status of an error (spec R201, R202). -/
def Raise.status (r : Raise) : Status :=
  match r with
  | .select _ => .selectErr
  | .bus _ => .busErr

/-- The record of a raised error: status and payload, nothing else (spec R201, R202, R209 (d)). -/
def Result.failed (r : Raise) : Result := { Result.done with status := r.status, err := some r }

/-- The record of an illegal word: "Recorded: nothing (`err` has no value)" (spec R204). -/
def Result.refusedWord : Result := { Result.done with status := .illegal }

/-! ### The start and the end of a command -/

/-- A command is accepted: `busy` becomes true (spec R27). -/
def State.accept (s : State) : State := { s with busy := true }

/-- A command ends and its result is presented: `busy` becomes false (spec R27, R31). -/
def State.present (s : State) (r : Result) : State := { s with busy := false, result := some r }

/-- TAKING AN ERROR, the one shared operation (spec R209 (c), (d)): `phase` = IDLE, `pend` = none,
`busy` = false, and the result record with the status and the payload. No context is saved, no mode
switched, no vector taken. -/
def State.enterError (s : State) (r : Raise) : State :=
  { s with phase := .idle, pend := none, busy := false, result := some (Result.failed r) }

/-- A setter ends: its field register is written and nothing else (spec R100), status OK. -/
def State.setMirror (s : State) (m : Mirror) : State := State.present { s with mirror := m } Result.done

/-- How a transaction or a sequence of them ends: with a value, with an error (spec R170), or not at
all because the environment does not answer (R173, R219). -/
inductive Course (α : Type) where
  | done (v : α)
  | raised (r : Raise)
  | hung
deriving DecidableEq, Repr

/-- The end of a bus command: the result of its value, the entry of its error, or no end: the unit
stays as it is, `busy` true (spec R219). -/
def finishCommand {α : Type} (ok : State → α → Result) (c : Course α × State) : State :=
  match c with
  | (.done v, s) => s.present (ok s v)
  | (.raised r, s) => s.enterError r
  | (.hung, s) => s

/-! ### The capability port -/

/-- The environment's answer to the call after `k` more calls: scripted, or free. -/
def Env.drawAt (e : Env) (k : Nat) : Draw := (e.script[e.calls + k]?).getD (Config.freeDraw (e.calls + k))

/-- `n` more calls have been answered. -/
def Env.advance (e : Env) (n : Nat) : Env := { e with calls := e.calls + n }

/-- One answered call: it is recorded, and the environment moves to its next answer (spec R34). -/
def State.record (s : State) (t : TraceEntry) : State :=
  { s with trace := s.trace ++ [t], env := s.env.advance 1 }

/-- `SEL` after the answer of `Sel.assert()` (spec R32). -/
def lineAfterAssert (a : Except SelErr Unit) : SelLine :=
  match a with
  | .ok _ => .active
  | .error _ => .unknown

/-- `SEL` after the answer of `Sel.deassert()` (spec R32). -/
def lineAfterDeassert (a : Except SelErr Unit) : SelLine :=
  match a with
  | .ok _ => .inactive
  | .error _ => .unknown

/-- `Sel.assert()` (spec R8, R32). A call that is never answered changes nothing (assumption log 22). -/
def callAssert (s : State) : Option (Except SelErr Unit) × State :=
  match (s.env.drawAt 0).sel with
  | none => (none, s)
  | some a => (some a, State.record { s with sel := lineAfterAssert a } (.selAssert a))

/-- `Sel.deassert()` (spec R8, R32). -/
def callDeassert (s : State) : Option (Except SelErr Unit) × State :=
  match (s.env.drawAt 0).sel with
  | none => (none, s)
  | some a => (some a, State.record { s with sel := lineAfterDeassert a } (.selDeassert a))

/-- One transfer call: its answer is the part `get` of the environment's draw, recorded as `entry`. -/
def callTransfer {α : Type} (get : Draw → Option (Except BusErr α)) (entry : Except BusErr α → TraceEntry)
    (s : State) : Option (Except BusErr α) × State :=
  match get (s.env.drawAt 0) with
  | none => (none, s)
  | some a => (some a, s.record (entry a))

/-- `Bus.write(tx)` (spec R8). -/
def callWrite (tx : Byte × Byte) (s : State) : Option (Except BusErr Unit) × State :=
  callTransfer Draw.write (.write tx) s

/-- `Bus.exchange(tx)` (spec R8). -/
def callExchange (tx : Byte × Byte) (s : State) : Option (Except BusErr (Byte × Byte)) × State :=
  callTransfer Draw.exchange (.exchange tx) s

/-! ### The transaction -/

/-- The switch `DEASSERT_ERR_WINS` (spec R170 case 5, R206; decision D10, assumption log 7). -/
def deassertErrWins : Bool := true

/-- What a transaction raises when its deassert failed with `e3` after the transfer answered `r2`: the
deassert's failure, which masks an earlier success and an earlier failure (spec R170 cases 4 and 5). -/
def deassertFailure {α : Type} (e3 : SelErr) (r2 : Except BusErr α) : Raise :=
  match r2 with
  | .ok _ => .select e3
  | .error e2 => if deassertErrWins then .select e3 else .bus e2

/-- What a transaction ends with when its deassert succeeded (spec R170 cases 2 and 3). -/
def transferCourse {α : Type} (r2 : Except BusErr α) : Course α :=
  match r2 with
  | .ok v => .done v
  | .error e2 => .raised (.bus e2)

/-- `pend <- (if r2 = err(e2) then some(e2) else none)` (spec R171). -/
def pendingFailure {α : Type} (r2 : Except BusErr α) : Option BusErr :=
  match r2 with
  | .ok _ => none
  | .error e2 => some e2

/-- Step 3 of a transaction (spec R170): deassert, whatever the transfer answered, and the end. -/
def closeTransaction {α : Type} (r2 : Except BusErr α) (s : State) : Course α × State :=
  match callDeassert { s with pend := pendingFailure r2, phase := .deassert } with
  | (none, s3) => (.hung, s3)
  | (some (.error e3), s3) => (.raised (deassertFailure e3 r2), { s3 with phase := .idle, pend := none })
  | (some (.ok _), s3) => (transferCourse r2, { s3 with phase := .idle, pend := none })

/-- The transaction (spec R170), around the one transfer it performs: assert, transfer, deassert. After
a failed assert no further call is made. -/
def transact {α : Type} (transfer : State → Option (Except BusErr α) × State) (s : State) :
    Course α × State :=
  match callAssert { s with phase := .assert } with
  | (none, s1) => (.hung, s1)
  | (some (.error e1), s1) => (.raised (.select e1), { s1 with phase := .idle })
  | (some (.ok _), s1) =>
    match transfer { s1 with phase := .xfer } with
    | (none, s2) => (.hung, s2)
    | (some r2, s2) => closeTransaction r2 s2

/-- `WR(a, v)`, the write primitive (spec R171). -/
def wr (a : RegAddr) (v : Byte) (s : State) : Course Unit × State := transact (callWrite (writeFrame a v)) s

/-- The byte a read returns: the second one received; the first is discarded (spec R172). -/
def readByte (c : Course (Byte × Byte) × State) : Course Byte × State :=
  match c with
  | (.done rx, s) => (.done rx.2, s)
  | (.raised r, s) => (.raised r, s)
  | (.hung, s) => (.hung, s)

/-- `RD(a)`, the read primitive (spec R172). -/
def rd (a : RegAddr) (s : State) : Course Byte × State := readByte (transact (callExchange (readFrame a)) s)

/-! ### The composite loops -/

/-- The loop of `WRALL` over what is left of `ORDER_W` (spec R191): each image is packed from the
current field registers just before its own transaction; the first failure ends the loop with `seq`
unchanged. -/
def writeFrom (order : List (RegAddr × (Mirror → Byte))) (s : State) : Course Unit × State :=
  match order with
  | [] => (.done (), s)
  | (a, pack) :: rest =>
    match wr a (pack s.mirror) s with
    | (.done _, s1) => writeFrom rest { s1 with seq := s1.seq + 1 }
    | (.raised r, s1) => (.raised r, s1)
    | (.hung, s1) => (.hung, s1)

/-- The loop of `RDALL` over what is left of `ORDER_R` (spec R194): `rxbuf[seq] <- RD(a)`. -/
def readFrom (order : List RegAddr) (s : State) : Course Unit × State :=
  match order with
  | [] => (.done (), s)
  | a :: rest =>
    match rd a s with
    | (.done b, s1) => readFrom rest { s1 with rxbuf := s1.rxbuf.setIfInBounds s1.seq b, seq := s1.seq + 1 }
    | (.raised r, s1) => (.raised r, s1)
    | (.hung, s1) => (.hung, s1)

/-- After a failed `RDALL` the contents of `rxbuf` are unspecified (decision D14, U13): a free value. -/
def forgetBuffer (c : Course Unit × State) : Course Unit × State :=
  match c with
  | (.done u, s) => (.done u, s)
  | (.raised r, s) => (.raised r, { s with rxbuf := Config.freeBuffer s.env.calls })
  | (.hung, s) => (.hung, s)

end Sys2Proof.Machine
end

