-- ==== Sys2Proof/Machine/Accessors.lean ====
section
/-! DEFINITION. The nine byte accessors (spec R140 to R149): the image packed fresh from the field
registers, status OK, no capability call. -/

namespace Sys2Proof.Machine

/-- `GETB.CONFIG0` (spec R141). -/
def execGetbConfig0 (s : State) : Host.Outcome State Fault Refusal :=
  .next (s.present (Result.byte (packConfig0 s.mirror)))

/-- `GETB.CONFIG1` (spec R142). -/
def execGetbConfig1 (s : State) : Host.Outcome State Fault Refusal :=
  .next (s.present (Result.byte (packConfig1 s.mirror)))

/-- `GETB.CONFIG2` (spec R143). -/
def execGetbConfig2 (s : State) : Host.Outcome State Fault Refusal :=
  .next (s.present (Result.byte (packConfig2 s.mirror)))

/-- `GETB.CONFIG3` (spec R144). -/
def execGetbConfig3 (s : State) : Host.Outcome State Fault Refusal :=
  .next (s.present (Result.byte (packConfig3 s.mirror)))

/-- `GETB.CONFIG4` (spec R145). -/
def execGetbConfig4 (s : State) : Host.Outcome State Fault Refusal :=
  .next (s.present (Result.byte (packConfig4 s.mirror)))

/-- `GETB.TOF1` (spec R146). -/
def execGetbTof1 (s : State) : Host.Outcome State Fault Refusal :=
  .next (s.present (Result.byte (packTof1 s.mirror)))

/-- `GETB.TOF0` (spec R147). -/
def execGetbTof0 (s : State) : Host.Outcome State Fault Refusal :=
  .next (s.present (Result.byte (packTof0 s.mirror)))

/-- `GETB.TIMEOUT` (spec R148). -/
def execGetbTimeOut (s : State) : Host.Outcome State Fault Refusal :=
  .next (s.present (Result.byte (packTimeOut s.mirror)))

/-- `GETB.CLOCKRATE` (spec R149). -/
def execGetbClockRate (s : State) : Host.Outcome State Fault Refusal :=
  .next (s.present (Result.byte (packClockRate s.mirror)))

end Sys2Proof.Machine
end

