-- ==== Sys2Proof/Machine/Composite.lean ====
section
/-! DEFINITION. The two composite commands (spec R190 to R197): `seq` starts at 0 and walks the fixed
order, left at the first failure. -/

namespace Sys2Proof.Machine

/-- `WRALL` (spec R191). -/
def execWrall (s : State) : Host.Outcome State Fault Refusal :=
  .next (finishCommand (fun _ _ => Result.done) (writeFrom writeOrder { s.accept with seq := 0 }))

/-- `RDALL` (spec R194): on success the ten bytes are copied to the result record. -/
def execRdall (s : State) : Host.Outcome State Fault Refusal :=
  .next (finishCommand (fun t _ => Result.buffer t.rxbuf)
    (forgetBuffer (readFrom readOrder { s.accept with seq := 0 })))

end Sys2Proof.Machine
end

