-- ==== Sys2Proof/Machine/Setters.lean ====
section
/-! DEFINITION. The thirty setters (spec R100 to R131). Each writes its own field register and nothing
else, makes no capability call and ends with status OK; a clamped setter saturates (R101). -/

namespace Sys2Proof.Machine

/-- `SET.tx_frequency_divider v` (spec R102). -/
def execSetTxFrequencyDivider (v : TxFrequencyDivider) (s : State) :
    Host.Outcome State Fault Refusal :=
  .next (s.setMirror { s.mirror with txFrequencyDivider := v })

/-- `SET.tx_pulses raw` (spec R103). -/
def execSetTxPulses (raw : Int) (s : State) : Host.Outcome State Fault Refusal :=
  .next (s.setMirror { s.mirror with txPulses := pulseCount raw })

/-- `SET.measurement_cycles v` (spec R104). -/
def execSetMeasurementCycles (v : MeasurementCycles) (s : State) :
    Host.Outcome State Fault Refusal :=
  .next (s.setMirror { s.mirror with measurementCycles := v })

/-- `SET.receive_events v` (spec R105). -/
def execSetReceiveEvents (v : ReceiveEvents) (s : State) :
    Host.Outcome State Fault Refusal :=
  .next (s.setMirror { s.mirror with receiveEvents := v })

/-- `SET.voltage_reference v` (spec R106). -/
def execSetVoltageReference (v : VoltageReference) (s : State) :
    Host.Outcome State Fault Refusal :=
  .next (s.setMirror { s.mirror with voltageReference := v })

/-- `SET.measurement_mode v` (spec R107). -/
def execSetMeasurementMode (v : MeasurementMode) (s : State) :
    Host.Outcome State Fault Refusal :=
  .next (s.setMirror { s.mirror with measurementMode := v })

/-- `SET.damping v` (spec R108). -/
def execSetDamping (v : Switch) (s : State) :
    Host.Outcome State Fault Refusal :=
  .next (s.setMirror { s.mirror with damping := v })

/-- `SET.channel_swap v` (spec R109). -/
def execSetChannelSwap (v : Switch) (s : State) :
    Host.Outcome State Fault Refusal :=
  .next (s.setMirror { s.mirror with channelSwap := v })

/-- `SET.external_channel_select v` (spec R110). -/
def execSetExternalChannelSelect (v : Switch) (s : State) :
    Host.Outcome State Fault Refusal :=
  .next (s.setMirror { s.mirror with externalChannelSelect := v })

/-- `SET.channel_select v` (spec R111). -/
def execSetChannelSelect (v : ChannelSelect) (s : State) :
    Host.Outcome State Fault Refusal :=
  .next (s.setMirror { s.mirror with channelSelect := v })

/-- `SET.tof_meas_mode v` (spec R112). -/
def execSetTofMeasMode (v : TofMeasMode) (s : State) :
    Host.Outcome State Fault Refusal :=
  .next (s.setMirror { s.mirror with tofMeasMode := v })

/-- `SET.temp_mode v` (spec R113). -/
def execSetTempMode (v : TempMode) (s : State) :
    Host.Outcome State Fault Refusal :=
  .next (s.setMirror { s.mirror with tempMode := v })

/-- `SET.temp_rtd_select v` (spec R114). -/
def execSetTempRtdSelect (v : TempRtdSelect) (s : State) :
    Host.Outcome State Fault Refusal :=
  .next (s.setMirror { s.mirror with tempRtdSelect := v })

/-- `SET.temp_clock_divider v` (spec R115). -/
def execSetTempClockDivider (v : TempClockDivider) (s : State) :
    Host.Outcome State Fault Refusal :=
  .next (s.setMirror { s.mirror with tempClockDivider := v })

/-- `SET.power_blanking v` (spec R116). -/
def execSetPowerBlanking (v : Switch) (s : State) :
    Host.Outcome State Fault Refusal :=
  .next (s.setMirror { s.mirror with powerBlanking := v })

/-- `SET.echo_qualification_threshold v` (spec R117). -/
def execSetEchoQualificationThreshold (v : EchoThreshold) (s : State) :
    Host.Outcome State Fault Refusal :=
  .next (s.setMirror { s.mirror with echoQualificationThreshold := v })

/-- `SET.receive_mode v` (spec R118). -/
def execSetReceiveMode (v : ReceiveMode) (s : State) :
    Host.Outcome State Fault Refusal :=
  .next (s.setMirror { s.mirror with receiveMode := v })

/-- `SET.trigger_edge_polarity v` (spec R119). -/
def execSetTriggerEdgePolarity (v : TriggerEdge) (s : State) :
    Host.Outcome State Fault Refusal :=
  .next (s.setMirror { s.mirror with triggerEdgePolarity := v })

/-- `SET.tx_pulse_shift_position raw` (spec R120). -/
def execSetTxPulseShiftPosition (raw : Int) (s : State) : Host.Outcome State Fault Refusal :=
  .next (s.setMirror { s.mirror with txPulseShiftPosition := pulseCount raw })

/-- `SET.pga_gain v` (spec R121). -/
def execSetPgaGain (v : PgaGain) (s : State) :
    Host.Outcome State Fault Refusal :=
  .next (s.setMirror { s.mirror with pgaGain := v })

/-- `SET.pga_control v` (spec R122). -/
def execSetPgaControl (v : AmpControl) (s : State) :
    Host.Outcome State Fault Refusal :=
  .next (s.setMirror { s.mirror with pgaControl := v })

/-- `SET.lna_control v` (spec R123). -/
def execSetLnaControl (v : AmpControl) (s : State) :
    Host.Outcome State Fault Refusal :=
  .next (s.setMirror { s.mirror with lnaControl := v })

/-- `SET.lna_feedback v` (spec R124). -/
def execSetLnaFeedback (v : LnaFeedback) (s : State) :
    Host.Outcome State Fault Refusal :=
  .next (s.setMirror { s.mirror with lnaFeedback := v })

/-- `SET.tof_value raw` (spec R125). -/
def execSetTofValue (raw : Int) (s : State) : Host.Outcome State Fault Refusal :=
  .next (s.setMirror { s.mirror with tofValue := tofNumber raw })

/-- `SET.force_short_tof v` (spec R126). -/
def execSetForceShortTof (v : Switch) (s : State) :
    Host.Outcome State Fault Refusal :=
  .next (s.setMirror { s.mirror with forceShortTof := v })

/-- `SET.short_tof_blank_period v` (spec R127). -/
def execSetShortTofBlankPeriod (v : ShortTofBlankPeriod) (s : State) :
    Host.Outcome State Fault Refusal :=
  .next (s.setMirror { s.mirror with shortTofBlankPeriod := v })

/-- `SET.echo_timeout v` (spec R128). -/
def execSetEchoTimeout (v : EchoTimeout) (s : State) :
    Host.Outcome State Fault Refusal :=
  .next (s.setMirror { s.mirror with echoTimeout := v })

/-- `SET.tof_timeout_control v` (spec R129). -/
def execSetTofTimeoutControl (v : TofTimeoutControl) (s : State) :
    Host.Outcome State Fault Refusal :=
  .next (s.setMirror { s.mirror with tofTimeoutControl := v })

/-- `SET.clock_in_divider v` (spec R130). -/
def execSetClockInDivider (v : ClockInDivider) (s : State) :
    Host.Outcome State Fault Refusal :=
  .next (s.setMirror { s.mirror with clockInDivider := v })

/-- `SET.auto_zero_period v` (spec R131). -/
def execSetAutoZeroPeriod (v : AutoZeroPeriod) (s : State) :
    Host.Outcome State Fault Refusal :=
  .next (s.setMirror { s.mirror with autoZeroPeriod := v })

end Sys2Proof.Machine
end

