-- ==== Sys2Proof/Machine/Transactions.lean ====
section
/-! DEFINITION. The commands of one transaction (spec R175 to R177) and the two transfer primitives run
by themselves (R64, R65, R171, R172; assumption log 15). -/

namespace Sys2Proof.Machine

/-- `RDREG a` (spec R175): the byte is returned raw. -/
def execRdreg (a : RegAddr) (s : State) : Host.Outcome State Fault Refusal :=
  .next (finishCommand (fun _ b => Result.byte b) (rd a s.accept))

/-- `WRERR c` (spec R176): the code is passed through to address 7. -/
def execWrerr (c : ErrControl) (s : State) : Host.Outcome State Fault Refusal :=
  .next (finishCommand (fun _ _ => Result.done) (wr .errFlag (c.code.setWidth 8) s.accept))

/-- `RDERR` (spec R177): the status byte is read once and unpacked into the snapshot. -/
def execRderr (s : State) : Host.Outcome State Fault Refusal :=
  .next (finishCommand (fun _ b => Result.snapshot (unpackStatus b)) (rd .errFlag s.accept))

/-- `FRAME_W`, the primitive `WR(a, v)` by itself (spec R64, R171). -/
def execFrameW (a : RegAddr) (v : Byte) (s : State) : Host.Outcome State Fault Refusal :=
  .next (finishCommand (fun _ _ => Result.done) (wr a v s.accept))

/-- `FRAME_R`, the primitive `RD(a)` by itself (spec R65, R172). -/
def execFrameR (a : RegAddr) (s : State) : Host.Outcome State Fault Refusal :=
  .next (finishCommand (fun _ b => Result.byte b) (rd a s.accept))

end Sys2Proof.Machine
end

