-- ==== Sys2Proof/Machine/Dispatch.lean ====
section
/-! DEFINITION. One arm per instruction. -/

namespace Sys2Proof.Machine

def exec (i : Instr) (s : State) : Host.Outcome State Fault Refusal :=
  match i with
  | .setTxFrequencyDivider v => Sys2Proof.Machine.execSetTxFrequencyDivider v s
  | .setTxPulses raw => Sys2Proof.Machine.execSetTxPulses raw s
  | .setMeasurementCycles v => Sys2Proof.Machine.execSetMeasurementCycles v s
  | .setReceiveEvents v => Sys2Proof.Machine.execSetReceiveEvents v s
  | .setVoltageReference v => Sys2Proof.Machine.execSetVoltageReference v s
  | .setMeasurementMode v => Sys2Proof.Machine.execSetMeasurementMode v s
  | .setDamping v => Sys2Proof.Machine.execSetDamping v s
  | .setChannelSwap v => Sys2Proof.Machine.execSetChannelSwap v s
  | .setExternalChannelSelect v => Sys2Proof.Machine.execSetExternalChannelSelect v s
  | .setChannelSelect v => Sys2Proof.Machine.execSetChannelSelect v s
  | .setTofMeasMode v => Sys2Proof.Machine.execSetTofMeasMode v s
  | .setTempMode v => Sys2Proof.Machine.execSetTempMode v s
  | .setTempRtdSelect v => Sys2Proof.Machine.execSetTempRtdSelect v s
  | .setTempClockDivider v => Sys2Proof.Machine.execSetTempClockDivider v s
  | .setPowerBlanking v => Sys2Proof.Machine.execSetPowerBlanking v s
  | .setEchoQualificationThreshold v => Sys2Proof.Machine.execSetEchoQualificationThreshold v s
  | .setReceiveMode v => Sys2Proof.Machine.execSetReceiveMode v s
  | .setTriggerEdgePolarity v => Sys2Proof.Machine.execSetTriggerEdgePolarity v s
  | .setTxPulseShiftPosition raw => Sys2Proof.Machine.execSetTxPulseShiftPosition raw s
  | .setPgaGain v => Sys2Proof.Machine.execSetPgaGain v s
  | .setPgaControl v => Sys2Proof.Machine.execSetPgaControl v s
  | .setLnaControl v => Sys2Proof.Machine.execSetLnaControl v s
  | .setLnaFeedback v => Sys2Proof.Machine.execSetLnaFeedback v s
  | .setTofValue raw => Sys2Proof.Machine.execSetTofValue raw s
  | .setForceShortTof v => Sys2Proof.Machine.execSetForceShortTof v s
  | .setShortTofBlankPeriod v => Sys2Proof.Machine.execSetShortTofBlankPeriod v s
  | .setEchoTimeout v => Sys2Proof.Machine.execSetEchoTimeout v s
  | .setTofTimeoutControl v => Sys2Proof.Machine.execSetTofTimeoutControl v s
  | .setClockInDivider v => Sys2Proof.Machine.execSetClockInDivider v s
  | .setAutoZeroPeriod v => Sys2Proof.Machine.execSetAutoZeroPeriod v s
  | .getbConfig0 => Sys2Proof.Machine.execGetbConfig0 s
  | .getbConfig1 => Sys2Proof.Machine.execGetbConfig1 s
  | .getbConfig2 => Sys2Proof.Machine.execGetbConfig2 s
  | .getbConfig3 => Sys2Proof.Machine.execGetbConfig3 s
  | .getbConfig4 => Sys2Proof.Machine.execGetbConfig4 s
  | .getbTof1 => Sys2Proof.Machine.execGetbTof1 s
  | .getbTof0 => Sys2Proof.Machine.execGetbTof0 s
  | .getbTimeOut => Sys2Proof.Machine.execGetbTimeOut s
  | .getbClockRate => Sys2Proof.Machine.execGetbClockRate s
  | .rdreg a => Sys2Proof.Machine.execRdreg a s
  | .wrerr c => Sys2Proof.Machine.execWrerr c s
  | .wrall => Sys2Proof.Machine.execWrall s
  | .rdall => Sys2Proof.Machine.execRdall s
  | .rderr => Sys2Proof.Machine.execRderr s
  | .frameW a v => Sys2Proof.Machine.execFrameW a v s
  | .frameR a => Sys2Proof.Machine.execFrameR a s

end Sys2Proof.Machine
end

