-- ==== Sys2Proof/Machine/Port.lean ====
section
/-! DEFINITION. The command port (spec R9, R27, R57, R230 to R233): what the unit does with the next
input the host offers; and the one way a transfer primitive can be run by itself, which no input reaches
(R91, R245; assumption log 15). -/

namespace Sys2Proof.Machine

/-- One accepted word: the instruction it spells runs; a word that spells none is refused with status
ILLEGAL, nothing else changed (spec R86, R204; assumption log 12). -/
def runWord (w : CommandWord) (s : State) : Host.Outcome State Fault Refusal :=
  match decode (.command w) with
  | .ok i => exec i s
  | .error _ => .next (s.present Result.refusedWord)

/-- A placed frame: the primitive it belongs to runs by itself. A frame that belongs to none is dropped: no
call, no record, ILLEGAL being a status of command words only (spec R200). DESIGN CHOICE, safe: the spec
gives such a frame no meaning, and no input of the host reaches this case (assumption log 29). -/
def runFrame (f : FrameWord) (s : State) : Host.Outcome State Fault Refusal :=
  match decode (.frame f) with
  | .ok i => exec i s
  | .error _ => .next s

/-- The reset input on an idle unit (spec R230 to R232): the state of R35, no capability call. The host's
further inputs and the environment are not the unit's and stay (assumption log 17). -/
def applyReset (s : State) : State := { State.reset with env := s.env, port := s.port }

/-- One step of an idle unit at its port: it waits for a command (spec R231), resets, or runs the word
offered. -/
def hostStep (s : State) : Host.Outcome State Fault Refusal :=
  match s.port with
  | [] => .next s
  | .rst :: rest => .next (applyReset { s with port := rest })
  | .word w :: rest => runWord w { s with port := rest }

/-- One step of an idle unit: a placed primitive first, else the port. -/
def idleStep (s : State) : Host.Outcome State Fault Refusal :=
  match s.primitive with
  | some f => runFrame f { s with primitive := none }
  | none => hostStep s

/-- One step of a unit inside a command whose call is not answered: it waits (spec R173), accepts nothing
(R27), and has no step for `RST` (R233). -/
def busyStep (s : State) : Host.Outcome State Fault Refusal :=
  match s.port with
  | .rst :: _ => .fault .resetWhileBusy
  | _ => .next s

/-- One step of the unit. -/
def portStep (s : State) : Host.Outcome State Fault Refusal := if s.busy then busyStep s else idleStep s

/-- The command word offered next to a unit that accepts it. -/
def offer (w : CommandWord) (s : State) : State :=
  { s with busy := false, primitive := none, port := .word w :: s.port }

/-- The frame placed to be run next by a unit that is idle. -/
def placePrimitive (f : FrameWord) (s : State) : State := { s with busy := false, primitive := some f }

/-- An instruction's encoding put where the next step takes it from: a command word is offered by the
host, a primitive is placed. -/
def placeWord (w : InstrWord) (s : State) : State :=
  match w with
  | .command c => offer c s
  | .frame f => placePrimitive f s

end Sys2Proof.Machine
end

