-- ==== Sys2Proof/Machine/Step.lean ====
section
/-! DEFINITION. The step of the machine, and the placing of an instruction where it is taken from. -/

namespace Sys2Proof.Machine

/-- One step of the unit (Machine/Port.lean). -/
def step (s : State) : Host.Outcome State Fault Refusal := portStep s

/-- `s` with the table word `w` of `nbits` bits next: a command word offered on the port of a unit that is
not busy (assumption log 16), a frame placed as a primitive (assumption log 15). -/
def State.withFetchWord (s : State) (nbits w : Nat) : State := placeWord (instrWordOf nbits w) s

end Sys2Proof.Machine
end

