-- ==== Sys2Proof/Machine/Assembly.lean ====
section
/-! DEFINITION. The written form of a command (spec R90): mnemonic, a space, the operand if there is
one; `;` starts a comment. Convention only: nothing else of the model reads it. The frames of the
transfer primitives are no host commands and have no written form (R91). How blanks are read is a
DESIGN CHOICE (assumption log 25). -/

namespace Sys2Proof.Machine

/-! ### Names -/

def nameTxFrequencyDivider (v : TxFrequencyDivider) : String :=
  match v with
  | .divideBy2 => "DivideBy2"
  | .divideBy4 => "DivideBy4"
  | .divideBy8 => "DivideBy8"
  | .divideBy16 => "DivideBy16"
  | .divideBy32 => "DivideBy32"
  | .divideBy64 => "DivideBy64"
  | .divideBy128 => "DivideBy128"
  | .divideBy256 => "DivideBy256"

def nameMeasurementCycles (v : MeasurementCycles) : String :=
  match v with
  | .cycles1 => "Cycles1"
  | .cycles2 => "Cycles2"
  | .cycles4 => "Cycles4"
  | .cycles8 => "Cycles8"
  | .cycles16 => "Cycles16"
  | .cycles32 => "Cycles32"
  | .cycles64 => "Cycles64"
  | .cycles128 => "Cycles128"

def nameReceiveEvents (v : ReceiveEvents) : String :=
  match v with
  | .doNotCount => "DoNotCount"
  | .events1 => "Events1"
  | .events2 => "Events2"
  | .events3 => "Events3"
  | .events4 => "Events4"
  | .events5 => "Events5"
  | .events6 => "Events6"
  | .events7 => "Events7"

def nameVoltageReference (v : VoltageReference) : String :=
  match v with
  | .internal => "Internal"
  | .external => "External"

def nameMeasurementMode (v : MeasurementMode) : String :=
  match v with
  | .timeOfFlight => "TimeOfFlight"
  | .temperature => "Temperature"

def nameSwitch (v : Switch) : String :=
  match v with
  | .disable => "Disable"
  | .enable => "Enable"

def nameChannelSelect (v : ChannelSelect) : String :=
  match v with
  | .channel1 => "Channel1"
  | .channel2 => "Channel2"

def nameTofMeasMode (v : TofMeasMode) : String :=
  match v with
  | .mode0 => "Mode0"
  | .mode1 => "Mode1"
  | .mode2 => "Mode2"

def nameTempMode (v : TempMode) : String :=
  match v with
  | .refRtd1Rtd2 => "RefRtd1Rtd2"
  | .refRtd1 => "RefRtd1"

def nameTempRtdSelect (v : TempRtdSelect) : String :=
  match v with
  | .pt1000 => "Pt1000"
  | .pt500 => "Pt500"

def nameTempClockDivider (v : TempClockDivider) : String :=
  match v with
  | .divideBy8 => "DivideBy8"
  | .useTxFrequencyDivider => "UseTxFrequencyDivider"

def nameEchoThreshold (v : EchoThreshold) : String :=
  match v with
  | .mv35 => "Mv35"
  | .mv50 => "Mv50"
  | .mv75 => "Mv75"
  | .mv125 => "Mv125"
  | .mv220 => "Mv220"
  | .mv410 => "Mv410"
  | .mv775 => "Mv775"
  | .mv1500 => "Mv1500"

def nameReceiveMode (v : ReceiveMode) : String :=
  match v with
  | .singleEcho => "SingleEcho"
  | .multiEcho => "MultiEcho"

def nameTriggerEdge (v : TriggerEdge) : String :=
  match v with
  | .risingEdge => "RisingEdge"
  | .fallingEdge => "FallingEdge"

def namePgaGain (v : PgaGain) : String :=
  match v with
  | .db0 => "Db0"
  | .db3 => "Db3"
  | .db6 => "Db6"
  | .db9 => "Db9"
  | .db12 => "Db12"
  | .db15 => "Db15"
  | .db18 => "Db18"
  | .db21 => "Db21"

def nameAmpControl (v : AmpControl) : String :=
  match v with
  | .active => "Active"
  | .bypassed => "Bypassed"

def nameLnaFeedback (v : LnaFeedback) : String :=
  match v with
  | .capacitive => "Capacitive"
  | .resistive => "Resistive"

def nameShortTofBlankPeriod (v : ShortTofBlankPeriod) : String :=
  match v with
  | .t0Times8 => "T0Times8"
  | .t0Times16 => "T0Times16"
  | .t0Times32 => "T0Times32"
  | .t0Times64 => "T0Times64"
  | .t0Times128 => "T0Times128"
  | .t0Times256 => "T0Times256"
  | .t0Times512 => "T0Times512"
  | .t0Times1024 => "T0Times1024"

def nameEchoTimeout (v : EchoTimeout) : String :=
  match v with
  | .enable => "Enable"
  | .disable => "Disable"

def nameTofTimeoutControl (v : TofTimeoutControl) : String :=
  match v with
  | .t0Times128 => "T0Times128"
  | .t0Times256 => "T0Times256"
  | .t0Times512 => "T0Times512"
  | .t0Times1024 => "T0Times1024"

def nameClockInDivider (v : ClockInDivider) : String :=
  match v with
  | .divideBy1 => "DivideBy1"
  | .divideBy2 => "DivideBy2"

def nameAutoZeroPeriod (v : AutoZeroPeriod) : String :=
  match v with
  | .t0Times64 => "T0Times64"
  | .t0Times128 => "T0Times128"
  | .t0Times256 => "T0Times256"
  | .t0Times512 => "T0Times512"

def nameErrControl (c : ErrControl) : String :=
  match c with
  | .noOp => "NoOp"
  | .resetFlagsAndPin => "ResetFlagsAndPin"
  | .resetStateMachine => "ResetStateMachine"
  | .resetErrorStateMachineAndMeasurement => "ResetErrorStateMachineAndMeasurement"

/-- The register names of spec R90, in capitals. -/
def nameRegAddr (a : RegAddr) : String :=
  match a with
  | .config0 => "CONFIG0"
  | .config1 => "CONFIG1"
  | .config2 => "CONFIG2"
  | .config3 => "CONFIG3"
  | .config4 => "CONFIG4"
  | .tof1 => "TOF1"
  | .tof0 => "TOF0"
  | .errFlag => "ERRFLAG"
  | .timeOut => "TIMEOUT"
  | .clockRate => "CLOCKRATE"

/-! ### Writing -/

/-- The written form of a host command (spec R90). -/
def written (i : Instr) : Option String :=
  match i with
  | .setTxFrequencyDivider v => some ("SET.tx_frequency_divider " ++ nameTxFrequencyDivider v)
  | .setTxPulses raw => some ("SET.tx_pulses " ++ toString raw)
  | .setMeasurementCycles v => some ("SET.measurement_cycles " ++ nameMeasurementCycles v)
  | .setReceiveEvents v => some ("SET.receive_events " ++ nameReceiveEvents v)
  | .setVoltageReference v => some ("SET.voltage_reference " ++ nameVoltageReference v)
  | .setMeasurementMode v => some ("SET.measurement_mode " ++ nameMeasurementMode v)
  | .setDamping v => some ("SET.damping " ++ nameSwitch v)
  | .setChannelSwap v => some ("SET.channel_swap " ++ nameSwitch v)
  | .setExternalChannelSelect v => some ("SET.external_channel_select " ++ nameSwitch v)
  | .setChannelSelect v => some ("SET.channel_select " ++ nameChannelSelect v)
  | .setTofMeasMode v => some ("SET.tof_meas_mode " ++ nameTofMeasMode v)
  | .setTempMode v => some ("SET.temp_mode " ++ nameTempMode v)
  | .setTempRtdSelect v => some ("SET.temp_rtd_select " ++ nameTempRtdSelect v)
  | .setTempClockDivider v => some ("SET.temp_clock_divider " ++ nameTempClockDivider v)
  | .setPowerBlanking v => some ("SET.power_blanking " ++ nameSwitch v)
  | .setEchoQualificationThreshold v => some ("SET.echo_qualification_threshold " ++ nameEchoThreshold v)
  | .setReceiveMode v => some ("SET.receive_mode " ++ nameReceiveMode v)
  | .setTriggerEdgePolarity v => some ("SET.trigger_edge_polarity " ++ nameTriggerEdge v)
  | .setTxPulseShiftPosition raw => some ("SET.tx_pulse_shift_position " ++ toString raw)
  | .setPgaGain v => some ("SET.pga_gain " ++ namePgaGain v)
  | .setPgaControl v => some ("SET.pga_control " ++ nameAmpControl v)
  | .setLnaControl v => some ("SET.lna_control " ++ nameAmpControl v)
  | .setLnaFeedback v => some ("SET.lna_feedback " ++ nameLnaFeedback v)
  | .setTofValue raw => some ("SET.tof_value " ++ toString raw)
  | .setForceShortTof v => some ("SET.force_short_tof " ++ nameSwitch v)
  | .setShortTofBlankPeriod v => some ("SET.short_tof_blank_period " ++ nameShortTofBlankPeriod v)
  | .setEchoTimeout v => some ("SET.echo_timeout " ++ nameEchoTimeout v)
  | .setTofTimeoutControl v => some ("SET.tof_timeout_control " ++ nameTofTimeoutControl v)
  | .setClockInDivider v => some ("SET.clock_in_divider " ++ nameClockInDivider v)
  | .setAutoZeroPeriod v => some ("SET.auto_zero_period " ++ nameAutoZeroPeriod v)
  | .getbConfig0 => some "GETB.CONFIG0"
  | .getbConfig1 => some "GETB.CONFIG1"
  | .getbConfig2 => some "GETB.CONFIG2"
  | .getbConfig3 => some "GETB.CONFIG3"
  | .getbConfig4 => some "GETB.CONFIG4"
  | .getbTof1 => some "GETB.TOF1"
  | .getbTof0 => some "GETB.TOF0"
  | .getbTimeOut => some "GETB.TIMEOUT"
  | .getbClockRate => some "GETB.CLOCKRATE"
  | .rdreg a => some ("RDREG " ++ nameRegAddr a)
  | .wrerr c => some ("WRERR " ++ nameErrControl c)
  | .wrall => some "WRALL"
  | .rdall => some "RDALL"
  | .rderr => some "RDERR"
  | .frameW _ _ => none
  | .frameR _ => none

/-! ### Reading -/

/-- One more character, read from the right, of a line cut into words at its blanks. -/
def addChar (c : Char) (words : List (List Char)) : List (List Char) :=
  if c = ' ' ∨ c = '\t' then [] :: words
  else
    match words with
    | [] => [[c]]
    | w :: rest => (c :: w) :: rest

/-- The words of a line, its comment left out. -/
def wordsOf (line : String) : List (List Char) :=
  ((line.toList.takeWhile (· ≠ ';')).foldr addChar []).filter (· ≠ [])

/-- The value of a digit in a base up to 16. -/
def digitValue (base : Nat) (c : Char) : Option Nat :=
  let n := c.toNat
  let d :=
    if '0'.toNat ≤ n ∧ n ≤ '9'.toNat then some (n - '0'.toNat)
    else if 'a'.toNat ≤ n ∧ n ≤ 'f'.toNat then some (n - 'a'.toNat + 10)
    else if 'A'.toNat ≤ n ∧ n ≤ 'F'.toNat then some (n - 'A'.toNat + 10)
    else none
  d.filter (· < base)

/-- A non-empty string of digits, most significant first. -/
def digitsValue (base : Nat) (cs : List Char) : Option Nat :=
  if cs = [] then none
  else cs.foldl (fun acc c => acc.bind fun a => (digitValue base c).map fun d => base * a + d) (some 0)

/-- A decimal or `0x` number. -/
def readNat (cs : List Char) : Option Nat :=
  match cs with
  | '0' :: 'x' :: rest => digitsValue 16 rest
  | _ => digitsValue 10 cs

/-- A decimal or `0x` integer, possibly negative (spec R90). -/
def readInt (cs : List Char) : Option Int :=
  match cs with
  | '-' :: rest => (readNat rest).map fun n => -(n : Int)
  | _ => (readNat cs).map fun n => (n : Int)

/-- The item of a list whose name is the text. -/
def readName {α : Type} (items : List α) (name : α → String) (cs : List Char) : Option α :=
  items.find? fun v => (name v).toList == cs

/-- A register, by name in any case or by number (spec R90). -/
def readRegister (cs : List Char) : Option RegAddr :=
  (readName RegAddr.variants nameRegAddr (cs.map Char.toUpper)).or ((readNat cs).bind RegAddr.ofNumber)

/-- A control code, by name or by number (spec R90). -/
def readControl (cs : List Char) : Option ErrControl :=
  (readName ErrControl.variants nameErrControl cs).or
    ((readNat cs).bind fun n => ErrControl.variants.find? fun c => c.code.toNat == n)

/-- The setters by the field name after `SET.`, each with how it reads its operand (spec R90). -/
def readSetter (field : List Char) (cs : List Char) : Option Instr :=
  let table : List (String × Option Instr) :=
    [ ("tx_frequency_divider", (readName TxFrequencyDivider.variants nameTxFrequencyDivider cs).map .setTxFrequencyDivider),
      ("tx_pulses", (readInt cs).map .setTxPulses),
      ("measurement_cycles", (readName MeasurementCycles.variants nameMeasurementCycles cs).map .setMeasurementCycles),
      ("receive_events", (readName ReceiveEvents.variants nameReceiveEvents cs).map .setReceiveEvents),
      ("voltage_reference", (readName VoltageReference.variants nameVoltageReference cs).map .setVoltageReference),
      ("measurement_mode", (readName MeasurementMode.variants nameMeasurementMode cs).map .setMeasurementMode),
      ("damping", (readName Switch.variants nameSwitch cs).map .setDamping),
      ("channel_swap", (readName Switch.variants nameSwitch cs).map .setChannelSwap),
      ("external_channel_select", (readName Switch.variants nameSwitch cs).map .setExternalChannelSelect),
      ("channel_select", (readName ChannelSelect.variants nameChannelSelect cs).map .setChannelSelect),
      ("tof_meas_mode", (readName TofMeasMode.variants nameTofMeasMode cs).map .setTofMeasMode),
      ("temp_mode", (readName TempMode.variants nameTempMode cs).map .setTempMode),
      ("temp_rtd_select", (readName TempRtdSelect.variants nameTempRtdSelect cs).map .setTempRtdSelect),
      ("temp_clock_divider", (readName TempClockDivider.variants nameTempClockDivider cs).map .setTempClockDivider),
      ("power_blanking", (readName Switch.variants nameSwitch cs).map .setPowerBlanking),
      ("echo_qualification_threshold", (readName EchoThreshold.variants nameEchoThreshold cs).map .setEchoQualificationThreshold),
      ("receive_mode", (readName ReceiveMode.variants nameReceiveMode cs).map .setReceiveMode),
      ("trigger_edge_polarity", (readName TriggerEdge.variants nameTriggerEdge cs).map .setTriggerEdgePolarity),
      ("tx_pulse_shift_position", (readInt cs).map .setTxPulseShiftPosition),
      ("pga_gain", (readName PgaGain.variants namePgaGain cs).map .setPgaGain),
      ("pga_control", (readName AmpControl.variants nameAmpControl cs).map .setPgaControl),
      ("lna_control", (readName AmpControl.variants nameAmpControl cs).map .setLnaControl),
      ("lna_feedback", (readName LnaFeedback.variants nameLnaFeedback cs).map .setLnaFeedback),
      ("tof_value", (readInt cs).map .setTofValue),
      ("force_short_tof", (readName Switch.variants nameSwitch cs).map .setForceShortTof),
      ("short_tof_blank_period", (readName ShortTofBlankPeriod.variants nameShortTofBlankPeriod cs).map .setShortTofBlankPeriod),
      ("echo_timeout", (readName EchoTimeout.variants nameEchoTimeout cs).map .setEchoTimeout),
      ("tof_timeout_control", (readName TofTimeoutControl.variants nameTofTimeoutControl cs).map .setTofTimeoutControl),
      ("clock_in_divider", (readName ClockInDivider.variants nameClockInDivider cs).map .setClockInDivider),
      ("auto_zero_period", (readName AutoZeroPeriod.variants nameAutoZeroPeriod cs).map .setAutoZeroPeriod) ]
  (table.find? fun row => row.1.toList == field).bind fun row => row.2

/-- The byte accessors by register; ErrFlag has none (spec R75). -/
def getterOf (a : RegAddr) : Option Instr :=
  match a with
  | .config0 => some .getbConfig0
  | .config1 => some .getbConfig1
  | .config2 => some .getbConfig2
  | .config3 => some .getbConfig3
  | .config4 => some .getbConfig4
  | .tof1 => some .getbTof1
  | .tof0 => some .getbTof0
  | .errFlag => none
  | .timeOut => some .getbTimeOut
  | .clockRate => some .getbClockRate

/-- The command a line of text writes, if it writes one (spec R90). -/
def assemble (line : String) : Option Instr :=
  match wordsOf line with
  | [m] =>
    if m = "WRALL".toList then some .wrall
    else if m = "RDALL".toList then some .rdall
    else if m = "RDERR".toList then some .rderr
    else if m.take 5 = "GETB.".toList then
      (readName RegAddr.variants nameRegAddr ((m.drop 5).map Char.toUpper)).bind getterOf
    else none
  | [m, o] =>
    if m = "RDREG".toList then (readRegister o).map .rdreg
    else if m = "WRERR".toList then (readControl o).map .wrerr
    else if m.take 4 = "SET.".toList then readSetter (m.drop 4) o
    else none
  | _ => none

end Sys2Proof.Machine
end

