-- ==== Sys2Proof/Machine/FieldMap.lean ====
section
/-! DEFINITION. `FIELDMAP` (spec R15 to R26): where each field lies in the register images, as data,
and the general pack rule of R140 over it. Machine/Pack.lean writes the nine pack functions out as
R141 to R149 give them; that the two agree is a statement. Rows the spec marks G are PRESUMED
(unsafe): assumption log 3. -/

namespace Sys2Proof.Machine

/-- One contribution to a register image: bits `from + width - 1 : from` of the field's value, placed
at `offset`. Only `tof_value` is cut in two (spec R83). -/
structure Placement where
  field : FieldId
  reg : RegAddr
  offset : Nat
  width : Nat
  cut : Nat
deriving DecidableEq, Repr

/-- The field map of spec R15 and R16 to R25. -/
def fieldMap : List Placement :=
  [ ⟨.txFrequencyDivider, .config0, 5, 3, 0⟩,
    ⟨.txPulses, .config0, 0, 5, 0⟩,
    ⟨.measurementCycles, .config1, 3, 3, 0⟩,
    ⟨.receiveEvents, .config1, 0, 3, 0⟩,
    ⟨.voltageReference, .config2, 7, 1, 0⟩,
    ⟨.measurementMode, .config2, 6, 1, 0⟩,
    ⟨.damping, .config2, 5, 1, 0⟩,
    ⟨.channelSwap, .config2, 4, 1, 0⟩,
    ⟨.externalChannelSelect, .config2, 3, 1, 0⟩,
    ⟨.channelSelect, .config2, 2, 1, 0⟩,
    ⟨.tofMeasMode, .config2, 0, 2, 0⟩,
    ⟨.tempMode, .config3, 6, 1, 0⟩,
    ⟨.tempRtdSelect, .config3, 5, 1, 0⟩,
    ⟨.tempClockDivider, .config3, 4, 1, 0⟩,
    ⟨.powerBlanking, .config3, 3, 1, 0⟩,
    ⟨.echoQualificationThreshold, .config3, 0, 3, 0⟩,
    ⟨.receiveMode, .config4, 6, 1, 0⟩,
    ⟨.triggerEdgePolarity, .config4, 5, 1, 0⟩,
    ⟨.txPulseShiftPosition, .config4, 0, 5, 0⟩,
    ⟨.pgaGain, .tof1, 5, 3, 0⟩,
    ⟨.pgaControl, .tof1, 4, 1, 0⟩,
    ⟨.lnaControl, .tof1, 3, 1, 0⟩,
    ⟨.lnaFeedback, .tof1, 2, 1, 0⟩,
    ⟨.tofValue, .tof1, 0, 2, 8⟩,
    ⟨.tofValue, .tof0, 0, 8, 0⟩,
    ⟨.forceShortTof, .timeOut, 6, 1, 0⟩,
    ⟨.shortTofBlankPeriod, .timeOut, 3, 3, 0⟩,
    ⟨.echoTimeout, .timeOut, 2, 1, 0⟩,
    ⟨.tofTimeoutControl, .timeOut, 0, 2, 0⟩,
    ⟨.clockInDivider, .clockRate, 2, 1, 0⟩,
    ⟨.autoZeroPeriod, .clockRate, 0, 2, 0⟩ ]

/-- The width of a field register (spec R15). -/
def FieldId.width (f : FieldId) : Nat :=
  match f with
  | .txFrequencyDivider => 3
  | .txPulses => 5
  | .measurementCycles => 3
  | .receiveEvents => 3
  | .voltageReference => 1
  | .measurementMode => 1
  | .damping => 1
  | .channelSwap => 1
  | .externalChannelSelect => 1
  | .channelSelect => 1
  | .tofMeasMode => 2
  | .tempMode => 1
  | .tempRtdSelect => 1
  | .tempClockDivider => 1
  | .powerBlanking => 1
  | .echoQualificationThreshold => 3
  | .receiveMode => 1
  | .triggerEdgePolarity => 1
  | .txPulseShiftPosition => 5
  | .pgaGain => 3
  | .pgaControl => 1
  | .lnaControl => 1
  | .lnaFeedback => 1
  | .tofValue => 10
  | .forceShortTof => 1
  | .shortTofBlankPeriod => 3
  | .echoTimeout => 1
  | .tofTimeoutControl => 2
  | .clockInDivider => 1
  | .autoZeroPeriod => 2

/-- The shifted mask of a placement, `(2^w - 1) << o` (spec R153). -/
def Placement.mask (p : Placement) : Nat := (2 ^ p.width - 1) <<< p.offset

/-- What a placement contributes to its image (spec R83, R140). -/
def Placement.contribution (p : Placement) (value : FieldId → Nat) : Nat :=
  ((value p.field >>> p.cut) % 2 ^ p.width) <<< p.offset

/-- The pack rule of spec R140 for any field map: shift each contribution to its offset, OR them;
bits no placement covers are 0. -/
def packRows (rows : List Placement) (value : FieldId → Nat) : Nat :=
  rows.foldr (fun p acc => p.contribution value ||| acc) 0

/-- The placements of one register. -/
def placementsOf (r : RegAddr) : List Placement := fieldMap.filter fun p => p.reg = r

end Sys2Proof.Machine
end

