-- ==== Sys2Proof/Safety.lean ====
section
/-! DEFINITION. The words claims are stated in: which calls a trace may hold and in what order, the
record of the select line read from the trace, the invariant of the unit, the courses of a transaction
as the table of spec R170 gives them, and the field a setter writes. Nothing here is used by `step`. -/

namespace Sys2Proof.Machine

/-! ### What a trace says -/

/-- The select line after one more call (spec R32). -/
def lineStep (l : SelLine) (e : TraceEntry) : SelLine :=
  match e with
  | .selAssert a => lineAfterAssert a
  | .selDeassert a => lineAfterDeassert a
  | .write _ _ => l
  | .exchange _ _ => l

/-- The select line a trace leaves, from inactive at reset (spec R32, R231). -/
def lineOf (t : List TraceEntry) : SelLine := t.foldl lineStep .inactive

/-- Which call may come next in a sequence of transactions, `none` once one came out of place (spec
R51, R170): an assert, then (if it succeeded) one transfer, then a deassert. The three places are named
by the phase in which the unit makes the call. -/
def bracketStep (p : Option Phase) (e : TraceEntry) : Option Phase :=
  match p, e with
  | some .assert, .selAssert (.ok _) => some .xfer
  | some .assert, .selAssert (.error _) => some .assert
  | some .xfer, .write _ _ => some .deassert
  | some .xfer, .exchange _ _ => some .deassert
  | some .deassert, .selDeassert _ => some .assert
  | _, _ => none

/-- Where a trace stands in the sequence of transactions. -/
def bracketOf (t : List TraceEntry) : Option Phase := t.foldl bracketStep (some .assert)

/-- The frames of spec R66: a write frame is `[a | 0x40, v]` with `v` an image of the register or, for
ErrFlag, a control code; a read frame is `[a, 0xFF]`; for one of the ten addresses. -/
def frameLegal (e : TraceEntry) : Bool :=
  match e with
  | .selAssert _ => true
  | .selDeassert _ => true
  | .write tx _ => RegAddr.variants.any fun a => tx.1 == BitVec.ofNat 8 (64 + a.number) && a.sends tx.2
  | .exchange tx _ => RegAddr.variants.any fun a => tx == (BitVec.ofNat 8 a.number, 0xFF)

/-- The call reports a select failure (spec R201). -/
def selectFailed (e : TraceEntry) : Bool :=
  match e with
  | .selAssert (.error _) => true
  | .selDeassert (.error _) => true
  | _ => false

/-! ### The invariant -/

/-- An idle unit is between transactions; the calls made form whole transactions up to the one in
progress; `SEL` is what the calls say; `seq` is 0 to 10; and no frame outside spec R66 was sent
(R27 to R29, R32, R51, R66, R170). -/
abbrev State.Inv (s : State) : Prop :=
  (s.busy = false → s.phase = .idle ∧ s.pend = none)
    ∧ bracketOf s.trace = some (if s.busy then s.phase else .assert)
    ∧ s.sel = lineOf s.trace
    ∧ s.seq ≤ 10
    ∧ s.trace.all frameLegal = true

/-! ### The courses of a transaction -/

/-- One row of the table of spec R170. -/
structure CourseRow (α : Type) where
  /-- The value, or what is raised. -/
  outcome : Except Raise α
  /-- `SEL` afterwards. -/
  line : SelLine
  /-- The calls in the trace. -/
  calls : List TraceEntry

/-- The table of spec R170, cases 2 to 5: the assert has answered `ok`, the transfer `r2` (recorded as
`entry r2`), the deassert `r3`. -/
def courseRow {α : Type} (entry : Except BusErr α → TraceEntry) (r2 : Except BusErr α)
    (r3 : Except SelErr Unit) : CourseRow α :=
  let calls := [.selAssert (.ok ()), entry r2, .selDeassert r3]
  match r2, r3 with
  | .ok v, .ok _ => { outcome := .ok v, line := .inactive, calls := calls }
  | .error e2, .ok _ => { outcome := .error (.bus e2), line := .inactive, calls := calls }
  | .ok _, .error e3 => { outcome := .error (.select e3), line := .unknown, calls := calls }
  | .error _, .error e3 => { outcome := .error (.select e3), line := .unknown, calls := calls }

/-- The result records of spec R31, written out: status OK with no other part. -/
def okRecord : Result := { status := .ok, err := none, data := none, buf := none, flags := none }

/-- Status OK with `data`. -/
def dataRecord (b : Byte) : Result := { status := .ok, err := none, data := some b, buf := none, flags := none }

/-- Status OK with `buf`. -/
def bufRecord (v : Vector Byte 10) : Result :=
  { status := .ok, err := none, data := none, buf := some v, flags := none }

/-- Status OK with `flags`. -/
def flagsRecord (f : Snapshot) : Result :=
  { status := .ok, err := none, data := none, buf := none, flags := some f }

/-- SELECT_ERR with its payload (spec R201). -/
def selectRecord (e : SelErr) : Result :=
  { status := .selectErr, err := some (.select e), data := none, buf := none, flags := none }

/-- BUS_ERR with its payload (spec R202). -/
def busRecord (e : BusErr) : Result :=
  { status := .busErr, err := some (.bus e), data := none, buf := none, flags := none }

/-- ILLEGAL (spec R204). -/
def illegalRecord : Result := { status := .illegal, err := none, data := none, buf := none, flags := none }

/-- The record of an outcome, given the record of a value (spec R31, R209). -/
def resultOf {α : Type} (ok : α → Result) (o : Except Raise α) : Result :=
  match o with
  | .ok v => ok v
  | .error (.select e) => selectRecord e
  | .error (.bus e) => busRecord e

/-- The state after a command whose calls were `calls`, which left the line at `line` and presented
`r`: idle, everything else as it was (spec R171, R172, R209). -/
def State.after (s : State) (calls : List TraceEntry) (line : SelLine) (r : Result) : State :=
  { s with
    busy := false, phase := .idle, pend := none, sel := line, result := some r
    trace := s.trace ++ calls, env := s.env.advance calls.length }

/-- The payload of a transfer that failed (spec R29). -/
def failureOf {α : Type} (r2 : Except BusErr α) : Option BusErr :=
  match r2 with
  | .ok _ => none
  | .error e2 => some e2

/-- The answers to three calls from the `k`-th on, for a transaction that writes. -/
def WriteAnswers (s : State) (k : Nat) (r1 : Except SelErr Unit) (r2 : Except BusErr Unit)
    (r3 : Except SelErr Unit) : Prop :=
  (s.env.drawAt k).sel = some r1 ∧ (s.env.drawAt (k + 1)).write = some r2
    ∧ (s.env.drawAt (k + 2)).sel = some r3

/-- The answers to three calls from the `k`-th on, for a transaction that reads. -/
def ReadAnswers (s : State) (k : Nat) (r1 : Except SelErr Unit) (r2 : Except BusErr (Byte × Byte))
    (r3 : Except SelErr Unit) : Prop :=
  (s.env.drawAt k).sel = some r1 ∧ (s.env.drawAt (k + 1)).exchange = some r2
    ∧ (s.env.drawAt (k + 2)).sel = some r3

/-- The first `n` transactions of a writing command succeed. -/
def WritesSucceed (s : State) (n : Nat) : Prop := ∀ k < n, WriteAnswers s (3 * k) (.ok ()) (.ok ()) (.ok ())

/-- The first `n` transactions of a reading command succeed, the `k`-th receiving `rx k`. -/
def ReadsSucceed (s : State) (n : Nat) (rx : Nat → Byte × Byte) : Prop :=
  ∀ k < n, ReadAnswers s (3 * k) (.ok ()) (.ok (rx k)) (.ok ())

/-- The three calls of a write that succeeded. -/
def writeCalls (tx : Byte × Byte) : List TraceEntry :=
  [.selAssert (.ok ()), .write tx (.ok ()), .selDeassert (.ok ())]

/-- The three calls of a read that succeeded. -/
def readCalls (tx rx : Byte × Byte) : List TraceEntry :=
  [.selAssert (.ok ()), .exchange tx (.ok rx), .selDeassert (.ok ())]

/-- The nine frames of `WRALL` from a mirror, in order (spec R190, R191). -/
def writeFrames (m : Mirror) : List (Byte × Byte) :=
  [(0x40, packConfig0 m), (0x41, packConfig1 m), (0x42, packConfig2 m), (0x43, packConfig3 m),
    (0x44, packConfig4 m), (0x45, packTof1 m), (0x46, packTof0 m), (0x48, packTimeOut m),
    (0x49, packClockRate m)]

/-- The read frame of address `k` (spec R65). -/
def readFrameAt (k : Nat) : Byte × Byte := (BitVec.ofNat 8 k, 0xFF)

/-! ### What a call shows of data -/

/-- A call without its data: which call, to which address, and whether it was answered `ok`. -/
inductive CallShape where
  | assert (ok : Bool)
  | deassert (ok : Bool)
  | write (address : Byte) (ok : Bool)
  | exchange (tx : Byte × Byte) (ok : Bool)
deriving DecidableEq, Repr

/-- Whether an answer is `ok`. -/
def answeredOk {ε α : Type} (a : Except ε α) : Bool :=
  match a with
  | .ok _ => true
  | .error _ => false

/-- The shape of a call (spec R196). -/
def shapeOf (e : TraceEntry) : CallShape :=
  match e with
  | .selAssert a => .assert (answeredOk a)
  | .selDeassert a => .deassert (answeredOk a)
  | .write tx a => .write tx.1 (answeredOk a)
  | .exchange tx a => .exchange tx (answeredOk a)

/-- Two draws answer alike: each call is answered in both or in neither, and `ok` in both or in
neither; the payloads and the bytes may differ. -/
def SameAnswers (d e : Draw) : Prop :=
  d.sel.map answeredOk = e.sel.map answeredOk ∧ d.write.map answeredOk = e.write.map answeredOk
    ∧ d.exchange.map answeredOk = e.exchange.map answeredOk

/-! ### Families of instructions -/

/-- What a setter stores, by its rule (spec R102 to R131): its field register and the integer that
register then reads as. -/
def setterTarget (i : Instr) : Option (FieldId × Nat) :=
  match i with
  | .setTxFrequencyDivider v => some (.txFrequencyDivider, v.code.toNat)
  | .setTxPulses raw => some (.txPulses, (max 0 (min raw 31)).toNat)
  | .setMeasurementCycles v => some (.measurementCycles, v.code.toNat)
  | .setReceiveEvents v => some (.receiveEvents, v.code.toNat)
  | .setVoltageReference v => some (.voltageReference, v.code.toNat)
  | .setMeasurementMode v => some (.measurementMode, v.code.toNat)
  | .setDamping v => some (.damping, v.code.toNat)
  | .setChannelSwap v => some (.channelSwap, v.code.toNat)
  | .setExternalChannelSelect v => some (.externalChannelSelect, v.code.toNat)
  | .setChannelSelect v => some (.channelSelect, v.code.toNat)
  | .setTofMeasMode v => some (.tofMeasMode, v.code.toNat)
  | .setTempMode v => some (.tempMode, v.code.toNat)
  | .setTempRtdSelect v => some (.tempRtdSelect, v.code.toNat)
  | .setTempClockDivider v => some (.tempClockDivider, v.code.toNat)
  | .setPowerBlanking v => some (.powerBlanking, v.code.toNat)
  | .setEchoQualificationThreshold v => some (.echoQualificationThreshold, v.code.toNat)
  | .setReceiveMode v => some (.receiveMode, v.code.toNat)
  | .setTriggerEdgePolarity v => some (.triggerEdgePolarity, v.code.toNat)
  | .setTxPulseShiftPosition raw => some (.txPulseShiftPosition, (max 0 (min raw 31)).toNat)
  | .setPgaGain v => some (.pgaGain, v.code.toNat)
  | .setPgaControl v => some (.pgaControl, v.code.toNat)
  | .setLnaControl v => some (.lnaControl, v.code.toNat)
  | .setLnaFeedback v => some (.lnaFeedback, v.code.toNat)
  | .setTofValue raw => some (.tofValue, (max 0 (min raw 1023)).toNat)
  | .setForceShortTof v => some (.forceShortTof, v.code.toNat)
  | .setShortTofBlankPeriod v => some (.shortTofBlankPeriod, v.code.toNat)
  | .setEchoTimeout v => some (.echoTimeout, v.code.toNat)
  | .setTofTimeoutControl v => some (.tofTimeoutControl, v.code.toNat)
  | .setClockInDivider v => some (.clockInDivider, v.code.toNat)
  | .setAutoZeroPeriod v => some (.autoZeroPeriod, v.code.toNat)
  | .getbConfig0 => none
  | .getbConfig1 => none
  | .getbConfig2 => none
  | .getbConfig3 => none
  | .getbConfig4 => none
  | .getbTof1 => none
  | .getbTof0 => none
  | .getbTimeOut => none
  | .getbClockRate => none
  | .rdreg _ => none
  | .wrerr _ => none
  | .wrall => none
  | .rdall => none
  | .rderr => none
  | .frameW _ _ => none
  | .frameR _ => none

/-- The instructions that make capability calls (spec R200). -/
def makesCalls (i : Instr) : Bool :=
  match i with
  | .setTxFrequencyDivider _ => false
  | .setTxPulses _ => false
  | .setMeasurementCycles _ => false
  | .setReceiveEvents _ => false
  | .setVoltageReference _ => false
  | .setMeasurementMode _ => false
  | .setDamping _ => false
  | .setChannelSwap _ => false
  | .setExternalChannelSelect _ => false
  | .setChannelSelect _ => false
  | .setTofMeasMode _ => false
  | .setTempMode _ => false
  | .setTempRtdSelect _ => false
  | .setTempClockDivider _ => false
  | .setPowerBlanking _ => false
  | .setEchoQualificationThreshold _ => false
  | .setReceiveMode _ => false
  | .setTriggerEdgePolarity _ => false
  | .setTxPulseShiftPosition _ => false
  | .setPgaGain _ => false
  | .setPgaControl _ => false
  | .setLnaControl _ => false
  | .setLnaFeedback _ => false
  | .setTofValue _ => false
  | .setForceShortTof _ => false
  | .setShortTofBlankPeriod _ => false
  | .setEchoTimeout _ => false
  | .setTofTimeoutControl _ => false
  | .setClockInDivider _ => false
  | .setAutoZeroPeriod _ => false
  | .getbConfig0 => false
  | .getbConfig1 => false
  | .getbConfig2 => false
  | .getbConfig3 => false
  | .getbConfig4 => false
  | .getbTof1 => false
  | .getbTof0 => false
  | .getbTimeOut => false
  | .getbClockRate => false
  | .rdreg _ => true
  | .wrerr _ => true
  | .wrall => true
  | .rdall => true
  | .rderr => true
  | .frameW _ _ => true
  | .frameR _ => true

/-- Two instructions, one after the other. -/
def execTwo (i j : Instr) (s : State) : Host.Outcome State Fault Refusal :=
  match exec i s with
  | .next t => exec j t
  | .fault f => .fault f
  | .refused r => .refused r

/-- Instructions one after another, stopping at a fault or a refusal. -/
def execAll (is : List Instr) (s : State) : Host.Outcome State Fault Refusal :=
  match is with
  | [] => .next s
  | i :: rest =>
    match exec i s with
    | .next t => execAll rest t
    | .fault f => .fault f
    | .refused r => .refused r

/-- The register a byte accessor reads (spec R141 to R149). -/
def getterTarget (i : Instr) : Option RegAddr :=
  match i with
  | .setTxFrequencyDivider _ => none
  | .setTxPulses _ => none
  | .setMeasurementCycles _ => none
  | .setReceiveEvents _ => none
  | .setVoltageReference _ => none
  | .setMeasurementMode _ => none
  | .setDamping _ => none
  | .setChannelSwap _ => none
  | .setExternalChannelSelect _ => none
  | .setChannelSelect _ => none
  | .setTofMeasMode _ => none
  | .setTempMode _ => none
  | .setTempRtdSelect _ => none
  | .setTempClockDivider _ => none
  | .setPowerBlanking _ => none
  | .setEchoQualificationThreshold _ => none
  | .setReceiveMode _ => none
  | .setTriggerEdgePolarity _ => none
  | .setTxPulseShiftPosition _ => none
  | .setPgaGain _ => none
  | .setPgaControl _ => none
  | .setLnaControl _ => none
  | .setLnaFeedback _ => none
  | .setTofValue _ => none
  | .setForceShortTof _ => none
  | .setShortTofBlankPeriod _ => none
  | .setEchoTimeout _ => none
  | .setTofTimeoutControl _ => none
  | .setClockInDivider _ => none
  | .setAutoZeroPeriod _ => none
  | .getbConfig0 => some .config0
  | .getbConfig1 => some .config1
  | .getbConfig2 => some .config2
  | .getbConfig3 => some .config3
  | .getbConfig4 => some .config4
  | .getbTof1 => some .tof1
  | .getbTof0 => some .tof0
  | .getbTimeOut => some .timeOut
  | .getbClockRate => some .clockRate
  | .rdreg _ => none
  | .wrerr _ => none
  | .wrall => none
  | .rdall => none
  | .rderr => none
  | .frameW _ _ => none
  | .frameR _ => none

/-- The bits of an image that no field occupies (spec R26, R153). -/
def reservedMask (a : RegAddr) : Nat :=
  match a with
  | .config1 => 0xC0
  | .config3 => 0x80
  | .config4 => 0x80
  | .timeOut => 0x80
  | .clockRate => 0xF8
  | .config0 => 0
  | .config2 => 0
  | .tof1 => 0
  | .tof0 => 0
  | .errFlag => 0xF8

/-- Two mirrors give the same nine images. -/
def SameImages (m n : Mirror) : Prop :=
  packConfig0 m = packConfig0 n ∧ packConfig1 m = packConfig1 n ∧ packConfig2 m = packConfig2 n
    ∧ packConfig3 m = packConfig3 n ∧ packConfig4 m = packConfig4 n ∧ packTof1 m = packTof1 n
    ∧ packTof0 m = packTof0 n ∧ packTimeOut m = packTimeOut n ∧ packClockRate m = packClockRate n

/-- The image `GETB` and `WRALL` use for an address; ErrFlag has none (spec R46). -/
def imageOf (a : RegAddr) : Option (Mirror → Byte) :=
  match a with
  | .config0 => some packConfig0
  | .config1 => some packConfig1
  | .config2 => some packConfig2
  | .config3 => some packConfig3
  | .config4 => some packConfig4
  | .tof1 => some packTof1
  | .tof0 => some packTof0
  | .errFlag => none
  | .timeOut => some packTimeOut
  | .clockRate => some packClockRate

/-- A command word that spells no command: the list of spec R86, read as numbers. -/
def IllegalWord (w : CommandWord) : Prop :=
  let op := w.toNat / 2 ^ 21
  let sel := w.toNat / 2 ^ 16 % 2 ^ 5
  let imm := w.toNat % 2 ^ 16
  op = 7 ∨ (op = 0 ∧ 29 < sel)
    ∨ (op = 0 ∧ (sel = 0 ∨ sel = 2 ∨ sel = 3 ∨ sel = 15 ∨ sel = 19 ∨ sel = 25) ∧ 7 < imm)
    ∨ (op = 0 ∧ sel = 10 ∧ 2 < imm)
    ∨ (op = 0 ∧ (sel = 27 ∨ sel = 29) ∧ 3 < imm)
    ∨ (op = 0 ∧ (sel = 4 ∨ sel = 5 ∨ sel = 6 ∨ sel = 7 ∨ sel = 8 ∨ sel = 9 ∨ sel = 11 ∨ sel = 12
        ∨ sel = 13 ∨ sel = 14 ∨ sel = 16 ∨ sel = 17 ∨ sel = 20 ∨ sel = 21 ∨ sel = 22 ∨ sel = 24
        ∨ sel = 26 ∨ sel = 28) ∧ 1 < imm)
    ∨ (op = 1 ∧ (sel = 7 ∨ 9 < sel)) ∨ (op = 2 ∧ 9 < sel)
    ∨ (op = 3 ∧ (sel ≠ 0 ∨ 3 < imm))
    ∨ ((op = 4 ∨ op = 5 ∨ op = 6) ∧ (sel ≠ 0 ∨ imm ≠ 0))
    ∨ ((op = 1 ∨ op = 2) ∧ imm ≠ 0)

end Sys2Proof.Machine
end

