-- ==== Sys2Proof/Certificates/Slice0/Obligations.lean ====
section
/-! DEFINITION. The statements for the provers. Each docstring says what of spec/ it formalises; a
clause that rests on a choice of the model names its assumption log. -/

open Sys2Proof Sys2Proof.Machine

/-- Decoding the word of any well-formed instruction gives the instruction back. Spec: 30_encoding.md R72, 30_encoding.md R73, 30_encoding.md R74, 30_encoding.md R75, 30_encoding.md R76, 30_encoding.md R77, 30_encoding.md R64, 30_encoding.md R65. -/
def Obligations.DecodeOfEncodeIsIdentity : Prop :=
  ∀ i : Instr, WellFormed i → decode (encode i) = .ok i

/-- Every word that decodes is the one word of a well-formed instruction. Spec: 30_encoding.md R72, 30_encoding.md R86, 30_encoding.md R66. -/
def Obligations.EncodeOfDecodeIsIdentity : Prop :=
  ∀ (w : InstrWord) (i : Instr), decode w = .ok i → WellFormed i ∧ encode i = w

/-- A command word is undecodable exactly if it is on the list of R86, and then the unit presents ILLEGAL and changes nothing else. Spec: 30_encoding.md R86, 60_exceptions.md R204. That the outcome is a next state, and the queue of inputs, are the model's: assumption logs 12 and 13. -/
def Obligations.IllegalWordsAreTheListAndChangeNothing : Prop :=
  (∀ w : CommandWord, (∃ e, decodeCommand w = .error e) ↔ IllegalWord w)
    ∧ ∀ (s : State) (w : CommandWord) (rest : List Input),
        s.busy = false → s.primitive = none → s.port = .word w :: rest → IllegalWord w →
          step s = .next { s with port := rest, result := some illegalRecord }

/-- A word of every family decodes to the instruction the spec says it is. Spec: 30_encoding.md R73, 30_encoding.md R90, 42_bus_transactions.md R175, 30_encoding.md R66. The codes, positions and values the spec marks G are its general knowledge: assumption logs 3, 4, 5. -/
def Obligations.WordsDecodeAsTheTableSays : Prop :=
  decode (.command 0x000002) = .ok (.setTxFrequencyDivider .divideBy8)
    ∧ decode (.command 0x010001) = .ok (.setTxPulses 1)
    ∧ decode (.command 0x17FFFB) = .ok (.setTofValue (-5))
    ∧ decode (.command 0x0A0002) = .ok (.setTofMeasMode .mode2)
    ∧ decode (.command 0x1A0001) = .ok (.setEchoTimeout .disable)
    ∧ decode (.command 0x200000) = .ok .getbConfig0
    ∧ decode (.command 0x470000) = .ok (.rdreg .errFlag)
    ∧ decode (.command 0x600001) = .ok (.wrerr .resetFlagsAndPin)
    ∧ decode (.command 0x800000) = .ok .wrall ∧ decode (.command 0xA00000) = .ok .rdall
    ∧ decode (.command 0xC00000) = .ok .rderr
    ∧ decode (.frame 0x4302) = .ok (.frameW .config3 0x02)
    ∧ decode (.frame 0x07FF) = .ok (.frameR .errFlag)

/-- The formats CMD_IMM and CMD_NONE, field by field. Spec: R76, R77. -/
def Obligations.ControlAndPlainFormats : Prop :=
  (∀ c : ErrControl, ∃ w, encode (.wrerr c) = .command w ∧ opOf w = 3 ∧ selOf w = 0
      ∧ (immOf w).extractLsb' 0 2 = c.code ∧ (immOf w).extractLsb' 2 14 = 0)
    ∧ (∃ w, encode .wrall = .command w ∧ opOf w = 4 ∧ selOf w = 0 ∧ immOf w = 0)
    ∧ (∃ w, encode .rdall = .command w ∧ opOf w = 5 ∧ selOf w = 0 ∧ immOf w = 0)
    ∧ (∃ w, encode .rderr = .command w ∧ opOf w = 6 ∧ selOf w = 0 ∧ immOf w = 0)

/-- No 24-bit command word spells a transfer primitive. Spec: 30_encoding.md R91, R133. -/
def Obligations.NoCommandWordSpellsAPrimitive : Prop :=
  ∀ (w : CommandWord) (i : Instr), decodeCommand w = .ok i →
    (∀ a v, i ≠ .frameW a v) ∧ ∀ a, i ≠ .frameR a

/-- The nine lines of R90 are read as the commands, whose words R90 gives. Spec: 30_encoding.md R90. The codes, positions and values the spec marks G are its general knowledge: assumption logs 3, 4, 5. -/
def Obligations.WrittenCommandsAssemble : Prop :=
  (assemble "SET.tx_pulses 1                     ; 0x010001").map encode = some (.command 0x010001)
    ∧ (assemble "SET.tof_value -5                    ; 0x17FFFB").map encode = some (.command 0x17FFFB)
    ∧ (assemble "SET.tx_frequency_divider DivideBy8  ; 0x000002").map encode = some (.command 0x000002)
    ∧ (assemble "GETB.CONFIG0                        ; 0x200000").map encode = some (.command 0x200000)
    ∧ (assemble "RDREG ErrFlag                       ; 0x470000").map encode = some (.command 0x470000)
    ∧ (assemble "WRERR ResetFlagsAndPin              ; 0x600001").map encode = some (.command 0x600001)
    ∧ (assemble "WRALL                               ; 0x800000").map encode = some (.command 0x800000)
    ∧ (assemble "RDALL                               ; 0xA00000").map encode = some (.command 0xA00000)
    ∧ (assemble "RDERR                               ; 0xC00000").map encode = some (.command 0xC00000)

/-- A step of an idle unit runs the command word offered, or the primitive placed, as exec of its instruction. Spec: 00_scope.md R9, 10_state.md R27, 30_encoding.md R73. The queue of inputs and the placed primitive are the model's: assumption logs 13 and 15. -/
def Obligations.StepRunsTheDecodedInstruction : Prop :=
  (∀ (s : State) (w : CommandWord) (rest : List Input) (i : Instr),
      s.busy = false → s.primitive = none → s.port = .word w :: rest → decode (.command w) = .ok i →
        step s = exec i { s with port := rest })
    ∧ ∀ (s : State) (f : FrameWord) (i : Instr),
        s.busy = false → s.primitive = some f → decode (.frame f) = .ok i →
          step s = exec i { s with primitive := none }

/-- An idle unit with nothing offered, and a busy unit whatever word is offered, stay as they are. Spec: 70_reset_and_hazards.md R231, 42_bus_transactions.md R173, 10_state.md R27. That waiting is a step is the model's choice: assumption log 16. -/
def Obligations.UnitWaitsWithoutInputOrAnswer : Prop :=
  (∀ s : State, s.busy = false → s.primitive = none → s.port = [] → step s = .next s)
    ∧ (∀ s : State, s.busy = true → s.port = [] → step s = .next s)
    ∧ ∀ (s : State) (w : CommandWord) (rest : List Input),
        s.busy = true → s.port = .word w :: rest → step s = .next s

/-- RST on an idle unit gives the reset state without a capability call; RST on a busy unit is a fault. Spec: 70_reset_and_hazards.md R230, 70_reset_and_hazards.md R231, 70_reset_and_hazards.md R232, 70_reset_and_hazards.md R233. The fault, and what RST keeps, are the model's choice: assumption logs 14 and 17. -/
def Obligations.ResetInputGivesResetState : Prop :=
  (∀ (s : State) (rest : List Input), s.busy = false → s.primitive = none → s.port = .rst :: rest →
      step s = .next { State.reset with env := s.env, port := rest })
    ∧ ∀ (s : State) (rest : List Input), s.busy = true → s.port = .rst :: rest →
        step s = .fault .resetWhileBusy

/-- The reset state: idle, line inactive, no result, empty trace, and the nine power-on images. Spec: 10_state.md R35, 70_reset_and_hazards.md R231. SEL inactive is the choice D18: assumption log 9. The port and the placed primitive are the model's: assumption logs 13 and 15. The codes, positions and values the spec marks G are its general knowledge: assumption logs 3, 4, 5. -/
def Obligations.ResetStateIsIdleWithPowerOnImages : Prop :=
  State.reset.busy = false ∧ State.reset.seq = 0 ∧ State.reset.phase = .idle ∧ State.reset.pend = none
    ∧ State.reset.sel = .inactive ∧ State.reset.result = none ∧ State.reset.trace = []
    ∧ State.reset.port = [] ∧ State.reset.primitive = none
    ∧ (writeFrames State.reset.mirror).map Prod.snd = [0x45, 0x00, 0x00, 0x03, 0x1F, 0x00, 0x00, 0x19, 0x00]

/-- Every step answers a next state, but for RST on a busy unit. Spec: 60_exceptions.md R219, 70_reset_and_hazards.md R233, 60_exceptions.md R200. The model's choices: that fault (assumption log 14), an illegal word as a next state (12), a command whose call is unanswered as a next state (11), waiting as a step (16), a frame that belongs to no primitive dropped (29). -/
def Obligations.OnlyFaultIsResetWhileBusy : Prop :=
  ∀ s : State, (∃ t, step s = .next t)
    ∨ (s.busy = true ∧ (∃ rest, s.port = .rst :: rest) ∧ step s = .fault .resetWhileBusy)

/-- The setters of Config0 store their own field, present OK and change nothing else. Spec: 40_field_setters.md R100, 40_field_setters.md R101, 40_field_setters.md R102, 40_field_setters.md R103. -/
def Obligations.SettersOfConfig0StoreTheirField : Prop :=
  (∀ (s : State) (v : TxFrequencyDivider), exec (.setTxFrequencyDivider v) s
      = .next { s with
          mirror := { s.mirror with txFrequencyDivider := v }, busy := false, result := some okRecord })
    ∧ (∀ (s : State) (raw : Int), ∃ p : BitVec 5, (p.toNat : Int) = max 0 (min raw 31)
      ∧ exec (.setTxPulses raw) s
        = .next { s with
            mirror := { s.mirror with txPulses := p }, busy := false, result := some okRecord })

/-- The setters of Config1 store their own field, present OK and change nothing else. Spec: 40_field_setters.md R100, 40_field_setters.md R101, 40_field_setters.md R104, 40_field_setters.md R105. -/
def Obligations.SettersOfConfig1StoreTheirField : Prop :=
  (∀ (s : State) (v : MeasurementCycles), exec (.setMeasurementCycles v) s
      = .next { s with
          mirror := { s.mirror with measurementCycles := v }, busy := false, result := some okRecord })
    ∧ (∀ (s : State) (v : ReceiveEvents), exec (.setReceiveEvents v) s
      = .next { s with
          mirror := { s.mirror with receiveEvents := v }, busy := false, result := some okRecord })

/-- The setters of Config2 store their own field, present OK and change nothing else. Spec: 40_field_setters.md R100, 40_field_setters.md R101, 40_field_setters.md R106, 40_field_setters.md R107, 40_field_setters.md R108, 40_field_setters.md R109, 40_field_setters.md R110, 40_field_setters.md R111, 40_field_setters.md R112. -/
def Obligations.SettersOfConfig2StoreTheirField : Prop :=
  (∀ (s : State) (v : VoltageReference), exec (.setVoltageReference v) s
      = .next { s with
          mirror := { s.mirror with voltageReference := v }, busy := false, result := some okRecord })
    ∧ (∀ (s : State) (v : MeasurementMode), exec (.setMeasurementMode v) s
      = .next { s with
          mirror := { s.mirror with measurementMode := v }, busy := false, result := some okRecord })
    ∧ (∀ (s : State) (v : Switch), exec (.setDamping v) s
      = .next { s with
          mirror := { s.mirror with damping := v }, busy := false, result := some okRecord })
    ∧ (∀ (s : State) (v : Switch), exec (.setChannelSwap v) s
      = .next { s with
          mirror := { s.mirror with channelSwap := v }, busy := false, result := some okRecord })
    ∧ (∀ (s : State) (v : Switch), exec (.setExternalChannelSelect v) s
      = .next { s with
          mirror := { s.mirror with externalChannelSelect := v }, busy := false, result := some okRecord })
    ∧ (∀ (s : State) (v : ChannelSelect), exec (.setChannelSelect v) s
      = .next { s with
          mirror := { s.mirror with channelSelect := v }, busy := false, result := some okRecord })
    ∧ (∀ (s : State) (v : TofMeasMode), exec (.setTofMeasMode v) s
      = .next { s with
          mirror := { s.mirror with tofMeasMode := v }, busy := false, result := some okRecord })

/-- The setters of Config3 store their own field, present OK and change nothing else. Spec: 40_field_setters.md R100, 40_field_setters.md R101, 40_field_setters.md R113, 40_field_setters.md R114, 40_field_setters.md R115, 40_field_setters.md R116, 40_field_setters.md R117. -/
def Obligations.SettersOfConfig3StoreTheirField : Prop :=
  (∀ (s : State) (v : TempMode), exec (.setTempMode v) s
      = .next { s with
          mirror := { s.mirror with tempMode := v }, busy := false, result := some okRecord })
    ∧ (∀ (s : State) (v : TempRtdSelect), exec (.setTempRtdSelect v) s
      = .next { s with
          mirror := { s.mirror with tempRtdSelect := v }, busy := false, result := some okRecord })
    ∧ (∀ (s : State) (v : TempClockDivider), exec (.setTempClockDivider v) s
      = .next { s with
          mirror := { s.mirror with tempClockDivider := v }, busy := false, result := some okRecord })
    ∧ (∀ (s : State) (v : Switch), exec (.setPowerBlanking v) s
      = .next { s with
          mirror := { s.mirror with powerBlanking := v }, busy := false, result := some okRecord })
    ∧ (∀ (s : State) (v : EchoThreshold), exec (.setEchoQualificationThreshold v) s
      = .next { s with
          mirror := { s.mirror with echoQualificationThreshold := v }, busy := false, result := some okRecord })

/-- The setters of Config4 store their own field, present OK and change nothing else. Spec: 40_field_setters.md R100, 40_field_setters.md R101, 40_field_setters.md R118, 40_field_setters.md R119, 40_field_setters.md R120. -/
def Obligations.SettersOfConfig4StoreTheirField : Prop :=
  (∀ (s : State) (v : ReceiveMode), exec (.setReceiveMode v) s
      = .next { s with
          mirror := { s.mirror with receiveMode := v }, busy := false, result := some okRecord })
    ∧ (∀ (s : State) (v : TriggerEdge), exec (.setTriggerEdgePolarity v) s
      = .next { s with
          mirror := { s.mirror with triggerEdgePolarity := v }, busy := false, result := some okRecord })
    ∧ (∀ (s : State) (raw : Int), ∃ p : BitVec 5, (p.toNat : Int) = max 0 (min raw 31)
      ∧ exec (.setTxPulseShiftPosition raw) s
        = .next { s with
            mirror := { s.mirror with txPulseShiftPosition := p }, busy := false, result := some okRecord })

/-- The setters of Tof1 and Tof0 store their own field, present OK and change nothing else. Spec: 40_field_setters.md R100, 40_field_setters.md R101, 40_field_setters.md R121, 40_field_setters.md R122, 40_field_setters.md R123, 40_field_setters.md R124, 40_field_setters.md R125. -/
def Obligations.SettersOfTofStoreTheirField : Prop :=
  (∀ (s : State) (v : PgaGain), exec (.setPgaGain v) s
      = .next { s with
          mirror := { s.mirror with pgaGain := v }, busy := false, result := some okRecord })
    ∧ (∀ (s : State) (v : AmpControl), exec (.setPgaControl v) s
      = .next { s with
          mirror := { s.mirror with pgaControl := v }, busy := false, result := some okRecord })
    ∧ (∀ (s : State) (v : AmpControl), exec (.setLnaControl v) s
      = .next { s with
          mirror := { s.mirror with lnaControl := v }, busy := false, result := some okRecord })
    ∧ (∀ (s : State) (v : LnaFeedback), exec (.setLnaFeedback v) s
      = .next { s with
          mirror := { s.mirror with lnaFeedback := v }, busy := false, result := some okRecord })
    ∧ (∀ (s : State) (raw : Int), ∃ p : BitVec 10, (p.toNat : Int) = max 0 (min raw 1023)
      ∧ exec (.setTofValue raw) s
        = .next { s with
            mirror := { s.mirror with tofValue := p }, busy := false, result := some okRecord })

/-- The setters of TimeOut store their own field, present OK and change nothing else. Spec: 40_field_setters.md R100, 40_field_setters.md R101, 40_field_setters.md R126, 40_field_setters.md R127, 40_field_setters.md R128, 40_field_setters.md R129. -/
def Obligations.SettersOfTimeOutStoreTheirField : Prop :=
  (∀ (s : State) (v : Switch), exec (.setForceShortTof v) s
      = .next { s with
          mirror := { s.mirror with forceShortTof := v }, busy := false, result := some okRecord })
    ∧ (∀ (s : State) (v : ShortTofBlankPeriod), exec (.setShortTofBlankPeriod v) s
      = .next { s with
          mirror := { s.mirror with shortTofBlankPeriod := v }, busy := false, result := some okRecord })
    ∧ (∀ (s : State) (v : EchoTimeout), exec (.setEchoTimeout v) s
      = .next { s with
          mirror := { s.mirror with echoTimeout := v }, busy := false, result := some okRecord })
    ∧ (∀ (s : State) (v : TofTimeoutControl), exec (.setTofTimeoutControl v) s
      = .next { s with
          mirror := { s.mirror with tofTimeoutControl := v }, busy := false, result := some okRecord })

/-- The setters of ClockRate store their own field, present OK and change nothing else. Spec: 40_field_setters.md R100, 40_field_setters.md R101, 40_field_setters.md R130, 40_field_setters.md R131. -/
def Obligations.SettersOfClockRateStoreTheirField : Prop :=
  (∀ (s : State) (v : ClockInDivider), exec (.setClockInDivider v) s
      = .next { s with
          mirror := { s.mirror with clockInDivider := v }, busy := false, result := some okRecord })
    ∧ (∀ (s : State) (v : AutoZeroPeriod), exec (.setAutoZeroPeriod v) s
      = .next { s with
          mirror := { s.mirror with autoZeroPeriod := v }, busy := false, result := some okRecord })

/-- Every setter leaves the integer its rule gives in its field register and every other field register as it was. Spec: 40_field_setters.md R100, 40_field_setters.md R101, 10_state.md R14. -/
def Obligations.SetterWritesOnlyItsField : Prop :=
  ∀ (i : Instr) (f : FieldId) (n : Nat), setterTarget i = some (f, n) → ∀ s : State,
    ∃ t, exec i s = .next t ∧ t.mirror.value f = n
      ∧ (∀ g, g ≠ f → t.mirror.value g = s.mirror.value g)
      ∧ (∀ a img, imageOf a = some img → (∀ p ∈ fieldMap, p.field = f → p.reg ≠ a) → img t.mirror = img s.mirror)
      ∧ t = { s with mirror := t.mirror, busy := false, result := some okRecord }

/-- Setters of different fields commute, of the same field the later wins, and a repeated setter is one. Spec: 40_field_setters.md R132, 40_field_setters.md R100, 40_field_setters.md R101. The spec derives R132 from R100 and R101. -/
def Obligations.SettersCommuteAndLaterWins : Prop :=
  (∀ (i j : Instr) (f g : FieldId) (m n : Nat), setterTarget i = some (f, m) → setterTarget j = some (g, n) →
      f ≠ g → ∀ s : State, execTwo i j s = execTwo j i s)
    ∧ (∀ (i j : Instr) (f : FieldId) (m n : Nat), setterTarget i = some (f, m) → setterTarget j = some (f, n) →
        ∀ s : State, execTwo i j s = exec j s)
    ∧ ∀ (i : Instr) (f : FieldId) (n : Nat), setterTarget i = some (f, n) →
        ∀ s : State, execTwo i i s = exec i s

/-- The three clamped setters saturate at 0 and at 31 or 1023, never wrap; imm 0xFFFF is -1 and stores 0. Spec: R81. -/
def Obligations.ClampedOperandsSaturate : Prop :=
  (∀ (s : State) (raw : Int), ∃ t, exec (.setTxPulses raw) s = .next t ∧ t.result = some okRecord
      ∧ (raw < 0 → t.mirror.txPulses.toNat = 0) ∧ (31 < raw → t.mirror.txPulses.toNat = 31)
      ∧ (0 ≤ raw → raw ≤ 31 → (t.mirror.txPulses.toNat : Int) = raw))
    ∧ (∀ (s : State) (raw : Int), ∃ t, exec (.setTxPulseShiftPosition raw) s = .next t ∧ t.result = some okRecord
        ∧ (raw < 0 → t.mirror.txPulseShiftPosition.toNat = 0)
        ∧ (31 < raw → t.mirror.txPulseShiftPosition.toNat = 31)
        ∧ (0 ≤ raw → raw ≤ 31 → (t.mirror.txPulseShiftPosition.toNat : Int) = raw))
    ∧ (∀ (s : State) (raw : Int), ∃ t, exec (.setTofValue raw) s = .next t ∧ t.result = some okRecord
        ∧ (raw < 0 → t.mirror.tofValue.toNat = 0) ∧ (1023 < raw → t.mirror.tofValue.toNat = 1023)
        ∧ (0 ≤ raw → raw ≤ 1023 → (t.mirror.tofValue.toNat : Int) = raw))
    ∧ decode (.command 0x01FFFF) = .ok (.setTxPulses (-1))
    ∧ decode (.command 0x12FFFF) = .ok (.setTxPulseShiftPosition (-1))
    ∧ decode (.command 0x17FFFF) = .ok (.setTofValue (-1))

/-- Each GETB returns the sum of its fields at their weights, presents OK and changes nothing else. Spec: 41_pack_unpack.md R140, 41_pack_unpack.md R141, 41_pack_unpack.md R142, 41_pack_unpack.md R143, 41_pack_unpack.md R144, 41_pack_unpack.md R145, 41_pack_unpack.md R146, 41_pack_unpack.md R147, 41_pack_unpack.md R148, 41_pack_unpack.md R149. The offsets of the rows marked G are presumed: assumption log 3. -/
def Obligations.AccessorsReturnTheSumOfTheirFields : Prop :=
  (∀ s : State, ∃ b : Byte,
      exec .getbConfig0 s = .next { s with busy := false, result := some (dataRecord b) }
      ∧ b.toNat = 32 * s.mirror.value .txFrequencyDivider + s.mirror.value .txPulses)
    ∧ (∀ s : State, ∃ b : Byte,
      exec .getbConfig1 s = .next { s with busy := false, result := some (dataRecord b) }
      ∧ b.toNat = 8 * s.mirror.value .measurementCycles + s.mirror.value .receiveEvents)
    ∧ (∀ s : State, ∃ b : Byte,
      exec .getbConfig2 s = .next { s with busy := false, result := some (dataRecord b) }
      ∧ b.toNat = 128 * s.mirror.value .voltageReference + 64 * s.mirror.value .measurementMode
          + 32 * s.mirror.value .damping + 16 * s.mirror.value .channelSwap
          + 8 * s.mirror.value .externalChannelSelect + 4 * s.mirror.value .channelSelect
          + s.mirror.value .tofMeasMode)
    ∧ (∀ s : State, ∃ b : Byte,
      exec .getbConfig3 s = .next { s with busy := false, result := some (dataRecord b) }
      ∧ b.toNat = 64 * s.mirror.value .tempMode + 32 * s.mirror.value .tempRtdSelect
          + 16 * s.mirror.value .tempClockDivider + 8 * s.mirror.value .powerBlanking
          + s.mirror.value .echoQualificationThreshold)
    ∧ (∀ s : State, ∃ b : Byte,
      exec .getbConfig4 s = .next { s with busy := false, result := some (dataRecord b) }
      ∧ b.toNat = 64 * s.mirror.value .receiveMode + 32 * s.mirror.value .triggerEdgePolarity
          + s.mirror.value .txPulseShiftPosition)
    ∧ (∀ s : State, ∃ b : Byte,
      exec .getbTof1 s = .next { s with busy := false, result := some (dataRecord b) }
      ∧ b.toNat = 32 * s.mirror.value .pgaGain + 16 * s.mirror.value .pgaControl
          + 8 * s.mirror.value .lnaControl + 4 * s.mirror.value .lnaFeedback
          + s.mirror.value .tofValue / 256)
    ∧ (∀ s : State, ∃ b : Byte,
      exec .getbTof0 s = .next { s with busy := false, result := some (dataRecord b) }
      ∧ b.toNat = s.mirror.value .tofValue % 256)
    ∧ (∀ s : State, ∃ b : Byte,
      exec .getbTimeOut s = .next { s with busy := false, result := some (dataRecord b) }
      ∧ b.toNat = 64 * s.mirror.value .forceShortTof + 8 * s.mirror.value .shortTofBlankPeriod
          + 4 * s.mirror.value .echoTimeout + s.mirror.value .tofTimeoutControl)
    ∧ (∀ s : State, ∃ b : Byte,
      exec .getbClockRate s = .next { s with busy := false, result := some (dataRecord b) }
      ∧ b.toNat = 4 * s.mirror.value .clockInDivider + s.mirror.value .autoZeroPeriod)

/-- The nine pack functions are the general pack rule over the field map. Spec: 41_pack_unpack.md R140, 10_state.md R15, 10_state.md R26. -/
def Obligations.PackFunctionsFollowTheFieldMap : Prop :=
  ∀ (m : Mirror) (a : RegAddr) (img : Mirror → Byte), imageOf a = some img →
    (img m).toNat = packRows (placementsOf a) m.value

/-- The shifted masks of each register are the listed ones, pairwise disjoint, and fill the byte with the reserved mask. Spec: 41_pack_unpack.md R153, 10_state.md R15, 10_state.md R26. The field map is the spec's choice D1: assumption log 3. -/
def Obligations.MasksAreDisjointAndFillTheByte : Prop :=
  (placementsOf .config0).map Placement.mask = [0xE0, 0x1F]
    ∧ (placementsOf .config1).map Placement.mask = [0x38, 0x07]
    ∧ (placementsOf .config2).map Placement.mask = [0x80, 0x40, 0x20, 0x10, 0x08, 0x04, 0x03]
    ∧ (placementsOf .config3).map Placement.mask = [0x40, 0x20, 0x10, 0x08, 0x07]
    ∧ (placementsOf .config4).map Placement.mask = [0x40, 0x20, 0x1F]
    ∧ (placementsOf .tof1).map Placement.mask = [0xE0, 0x10, 0x08, 0x04, 0x03]
    ∧ (placementsOf .tof0).map Placement.mask = [0xFF]
    ∧ (placementsOf .timeOut).map Placement.mask = [0x40, 0x38, 0x04, 0x03]
    ∧ (placementsOf .clockRate).map Placement.mask = [0x04, 0x03]
    ∧ ∀ a ∈ writeOrder.map Prod.fst,
        (reservedMask a :: (placementsOf a).map Placement.mask).Pairwise (fun x y => x &&& y = 0)
          ∧ (reservedMask a :: (placementsOf a).map Placement.mask).foldr (· ||| ·) 0 = 0xFF

/-- For any field map with disjoint ranges, every packed contribution can be read back. Spec: 41_pack_unpack.md R153, 41_pack_unpack.md R154, 92_eei_decisions.md D1, 93_implementation_defined.md Part 2. -/
def Obligations.AnyDisjointFieldMapIsLossless : Prop :=
  ∀ (rows : List Placement) (value : FieldId → Nat),
    rows.Pairwise (fun p q => p.mask &&& q.mask = 0) → ∀ p ∈ rows,
      (packRows rows value >>> p.offset) % 2 ^ p.width = (value p.field >>> p.cut) % 2 ^ p.width

/-- Every field is recovered from its image, and the nine images determine the thirty field registers. Spec: 41_pack_unpack.md R154, 41_pack_unpack.md R153, 30_encoding.md R84. The spec derives R154 from R153 and R84. -/
def Obligations.ImagesLoseNothing : Prop :=
  (∀ (m : Mirror) (p : Placement) (img : Mirror → Byte), p ∈ fieldMap → p.field ≠ .tofValue →
      imageOf p.reg = some img → ((img m).toNat >>> p.offset) &&& (2 ^ p.width - 1) = m.value p.field)
    ∧ (∀ m : Mirror, m.value .tofValue
        = (((packTof1 m).extractLsb' 0 2).toNat <<< 8) ||| (packTof0 m).toNat)
    ∧ ∀ m n : Mirror, SameImages m n ↔ m = n

/-- tof_value splits into t >> 8 and t mod 256 and is put together again. Spec: R156. -/
def Obligations.TimeOfFlightRoundTrip : Prop :=
  ∀ m : Mirror, let t := m.tofValue.toNat
    (packTof1 m).toNat &&& 3 = t >>> 8 ∧ (packTof0 m).toNat = t % 256 ∧ ((t >>> 8) <<< 8) ||| (t % 256) = t
      ∧ (t = 1023 → (packTof1 m).toNat &&& 3 = 3 ∧ (packTof0 m).toNat = 255)
      ∧ (t = 0 → (packTof1 m).toNat &&& 3 = 0 ∧ (packTof0 m).toNat = 0)

/-- Two reads of one image with no setter of its fields between them return the same data. Spec: R152. -/
def Obligations.AccessorsArePureBetweenSetters : Prop :=
  ∀ (g : Instr) (a : RegAddr), getterTarget g = some a → ∀ (is : List Instr),
    (∀ i ∈ is, ∀ f n, setterTarget i = some (f, n) → ∀ p ∈ fieldMap, p.field = f → p.reg ≠ a) →
      ∀ s t u : State, exec g s = .next t → execAll is t = .next u →
        ∃ v, exec g u = .next v ∧ v.result = t.result

/-- Every field value fits its width, so no contribution reaches a neighbour or bit 8. Spec: R84. -/
def Obligations.ContributionsFitTheirFields : Prop :=
  (∀ (m : Mirror) (f : FieldId), m.value f < 2 ^ f.width)
    ∧ (∀ (m : Mirror) (p : Placement), p ∈ fieldMap → p.contribution m.value &&& p.mask = p.contribution m.value
        ∧ p.contribution m.value < 256)
    ∧ ∀ p ∈ fieldMap, ∀ q ∈ fieldMap, p.reg = q.reg → p ≠ q →
        p.mask &&& q.mask = 0 ∧ ∀ m : Mirror, p.contribution m.value &&& q.mask = 0

/-- Reserved bits are packed as 0 and ignored on unpack, and code 3 of tof_meas_mode never appears. Spec: R85. -/
def Obligations.ReservedBitsAndUnlistedCode : Prop :=
  (∀ (m : Mirror) (a : RegAddr) (img : Mirror → Byte), imageOf a = some img →
      (img m).toNat &&& reservedMask a = 0)
    ∧ (∀ b : Byte, unpackStatus b = unpackStatus (b &&& 0x07))
    ∧ ∀ m : Mirror, m.value .tofMeasMode ≠ 3 ∧ (packConfig2 m).extractLsb' 0 2 ≠ 3

/-- unpack_status tests bits 2, 1 and 0 and ignores the rest, and only RDERR presents flags. Spec: R150. -/
def Obligations.StatusUnpackAndItsOnlyUser : Prop :=
  (∀ b : Byte, (unpackStatus b).signalWeak = b.getLsbD 2 ∧ (unpackStatus b).noSignal = b.getLsbD 1
      ∧ (unpackStatus b).signalHigh = b.getLsbD 0 ∧ unpackStatus b = unpackStatus (b &&& 0x07))
    ∧ unpackStatus 0x01 = { signalWeak := false, noSignal := false, signalHigh := true }
    ∧ unpackStatus 0x02 = { signalWeak := false, noSignal := true, signalHigh := false }
    ∧ unpackStatus 0x04 = { signalWeak := true, noSignal := false, signalHigh := false }
    ∧ unpackStatus 0x00 = { signalWeak := false, noSignal := false, signalHigh := false }
    ∧ ∀ (i : Instr) (s t : State) (r : Result), exec i s = .next t → t.busy = false → t.result = some r →
        r.flags.isSome = true → i = .rderr

/-- RDREG a is one framed exchange of [a, 0xFF], by rows 2 to 5 of the table of R170. Spec: 42_bus_transactions.md R170, 42_bus_transactions.md R172, 42_bus_transactions.md R175, 30_encoding.md R65. That a deassert failure masks a transfer failure is the choice D10: assumption log 7. -/
def Obligations.RdregFollowsTheTransactionTable : Prop :=
  ∀ (a : RegAddr) (s : State) (r2 : Except BusErr (Byte × Byte)) (r3 : Except SelErr Unit),
    ReadAnswers s 0 (.ok ()) r2 r3 →
      exec (.rdreg a) s
        = .next (s.after (courseRow (.exchange (readFrameAt a.number)) r2 r3).calls
            (courseRow (.exchange (readFrameAt a.number)) r2 r3).line
            (resultOf (fun rx => dataRecord rx.2) (courseRow (.exchange (readFrameAt a.number)) r2 r3).outcome))

/-- RDERR is one framed exchange of [0x07, 0xFF], its second byte unpacked. Spec: 42_bus_transactions.md R170, 42_bus_transactions.md R172, 42_bus_transactions.md R177, 41_pack_unpack.md R150. That a deassert failure masks a transfer failure is the choice D10: assumption log 7. -/
def Obligations.RderrFollowsTheTransactionTable : Prop :=
  ∀ (s : State) (r2 : Except BusErr (Byte × Byte)) (r3 : Except SelErr Unit),
    ReadAnswers s 0 (.ok ()) r2 r3 →
      exec .rderr s
        = .next (s.after (courseRow (.exchange (0x07, 0xFF)) r2 r3).calls
            (courseRow (.exchange (0x07, 0xFF)) r2 r3).line
            (resultOf (fun rx => flagsRecord { signalWeak := rx.2.getLsbD 2, noSignal := rx.2.getLsbD 1, signalHigh := rx.2.getLsbD 0 }) (courseRow (.exchange (0x07, 0xFF)) r2 r3).outcome))

/-- WRERR c is one framed write of [0x47, code], by rows 2 to 5 of the table of R170. Spec: 42_bus_transactions.md R170, 42_bus_transactions.md R171, 42_bus_transactions.md R176, 30_encoding.md R64. That a deassert failure masks a transfer failure is the choice D10: assumption log 7. -/
def Obligations.WrerrFollowsTheTransactionTable : Prop :=
  ∀ (c : ErrControl) (s : State) (r2 : Except BusErr Unit) (r3 : Except SelErr Unit),
    WriteAnswers s 0 (.ok ()) r2 r3 →
      exec (.wrerr c) s
        = .next (s.after (courseRow (.write (0x47, c.code.setWidth 8)) r2 r3).calls
            (courseRow (.write (0x47, c.code.setWidth 8)) r2 r3).line
            (resultOf (fun _ => okRecord) (courseRow (.write (0x47, c.code.setWidth 8)) r2 r3).outcome))

/-- FRAME_W, the primitive WR(a, v) by itself: one framed write of [a | 0x40, v]. Spec: 42_bus_transactions.md R170, 42_bus_transactions.md R171, 30_encoding.md R64. That a deassert failure masks a transfer failure is the choice D10: assumption log 7. That the primitive can run alone is the model's choice: assumption log 15. -/
def Obligations.FrameWFollowsTheTransactionTable : Prop :=
  ∀ (a : RegAddr) (v : Byte) (s : State) (r2 : Except BusErr Unit) (r3 : Except SelErr Unit),
    WriteAnswers s 0 (.ok ()) r2 r3 →
      exec (.frameW a v) s
        = .next (s.after (courseRow (.write (BitVec.ofNat 8 (64 + a.number), v)) r2 r3).calls
            (courseRow (.write (BitVec.ofNat 8 (64 + a.number), v)) r2 r3).line
            (resultOf (fun _ => okRecord) (courseRow (.write (BitVec.ofNat 8 (64 + a.number), v)) r2 r3).outcome))

/-- FRAME_R, the primitive RD(a) by itself: one framed exchange of [a, 0xFF]. Spec: 42_bus_transactions.md R170, 42_bus_transactions.md R172, 30_encoding.md R65. That a deassert failure masks a transfer failure is the choice D10: assumption log 7. That the primitive can run alone is the model's choice: assumption log 15. -/
def Obligations.FrameRFollowsTheTransactionTable : Prop :=
  ∀ (a : RegAddr) (s : State) (r2 : Except BusErr (Byte × Byte)) (r3 : Except SelErr Unit),
    ReadAnswers s 0 (.ok ()) r2 r3 →
      exec (.frameR a) s
        = .next (s.after (courseRow (.exchange (readFrameAt a.number)) r2 r3).calls
            (courseRow (.exchange (readFrameAt a.number)) r2 r3).line
            (resultOf (fun rx => dataRecord rx.2) (courseRow (.exchange (readFrameAt a.number)) r2 r3).outcome))

/-- A failed assert ends any bus command at once, with one call and no deassert (row 1 of R170). Spec: 42_bus_transactions.md R170, 42_bus_transactions.md R171, 60_exceptions.md R201, 43_composite_ops.md R191, 43_composite_ops.md R194. -/
def Obligations.FailedAssertEndsTheCommand : Prop :=
  ∀ (s : State) (e1 : SelErr), (s.env.drawAt 0).sel = some (.error e1) →
    let t := s.after [.selAssert (.error e1)] .unknown (selectRecord e1)
    (∀ a, exec (.rdreg a) s = .next t) ∧ (∀ c, exec (.wrerr c) s = .next t) ∧ exec .rderr s = .next t
      ∧ (∀ a v, exec (.frameW a v) s = .next t) ∧ (∀ a, exec (.frameR a) s = .next t)
      ∧ exec .wrall s = .next { t with seq := 0 }
      ∧ ∃ b, exec .rdall s = .next { t with seq := 0, rxbuf := b }

/-- One transaction reports the assert failure, else the deassert failure, else the transfer failure. Spec: 60_exceptions.md R206, 42_bus_transactions.md R170. That a deassert failure masks a transfer failure is the choice D10: assumption log 7. -/
def Obligations.ErrorPriorityInOneTransaction : Prop :=
  (∀ (i : Instr), (∃ a, i = .rdreg a) ∨ i = .rderr ∨ (∃ a, i = .frameR a) ∨ (∃ c, i = .wrerr c) ∨ (∃ a v, i = .frameW a v) →
      ∀ (s : State) (e1 : SelErr),
      (s.env.drawAt 0).sel = some (.error e1) →
        ∃ t, exec i s = .next t ∧ t.result = some (selectRecord e1) ∧ t.trace = s.trace ++ [.selAssert (.error e1)])
    ∧ (∀ (i : Instr), (∃ a, i = .rdreg a) ∨ i = .rderr ∨ (∃ a, i = .frameR a) → ∀ (s : State) (r2 : Except BusErr (Byte × Byte)),
        (∀ e3, ReadAnswers s 0 (.ok ()) r2 (.error e3) → ∃ t, exec i s = .next t ∧ t.result = some (selectRecord e3))
          ∧ ∀ e2, ReadAnswers s 0 (.ok ()) (.error e2) (.ok ()) →
              ∃ t, exec i s = .next t ∧ t.result = some (busRecord e2))
    ∧ ∀ (i : Instr), (∃ c, i = .wrerr c) ∨ (∃ a v, i = .frameW a v) → ∀ (s : State) (r2 : Except BusErr Unit),
        (∀ e3, WriteAnswers s 0 (.ok ()) r2 (.error e3) → ∃ t, exec i s = .next t ∧ t.result = some (selectRecord e3))
          ∧ ∀ e2, WriteAnswers s 0 (.ok ()) (.error e2) (.ok ()) →
              ∃ t, exec i s = .next t ∧ t.result = some (busRecord e2)

/-- A call that is never answered leaves the unit busy in the phase of that call. Spec: 42_bus_transactions.md R173, 60_exceptions.md R219, 10_state.md R28, 10_state.md R29. What is recorded of an unanswered call is the model's choice: assumption log 22. -/
def Obligations.SilentEnvironmentLeavesUnitBusy : Prop :=
  (∀ s : State, (s.env.drawAt 0).sel = none →
      let t := { s with busy := true, phase := .assert }
      (∀ a, exec (.rdreg a) s = .next t) ∧ (∀ c, exec (.wrerr c) s = .next t) ∧ exec .rderr s = .next t
        ∧ (∀ a v, exec (.frameW a v) s = .next t) ∧ (∀ a, exec (.frameR a) s = .next t)
        ∧ exec .wrall s = .next { t with seq := 0 } ∧ exec .rdall s = .next { t with seq := 0 })
    ∧ (∀ s : State, (s.env.drawAt 0).sel = some (.ok ()) →
        let t := { s with
          busy := true, phase := .xfer, sel := .active
          trace := s.trace ++ [.selAssert (.ok ())], env := s.env.advance 1 }
        ((s.env.drawAt 1).exchange = none → ∀ (i : Instr) (a : RegAddr),
            i = .rdreg a ∨ (i = .rderr ∧ a = .errFlag) ∨ i = .frameR a → exec i s = .next t)
          ∧ ((s.env.drawAt 1).write = none → ∀ (i : Instr),
              (∃ c, i = .wrerr c) ∨ (∃ a v, i = .frameW a v) → exec i s = .next t)
          ∧ ((s.env.drawAt 1).exchange = none → exec .rdall s = .next { t with seq := 0 })
          ∧ ((s.env.drawAt 1).write = none → exec .wrall s = .next { t with seq := 0 }))
    ∧ ∀ s : State, (s.env.drawAt 0).sel = some (.ok ()) → (s.env.drawAt 2).sel = none →
        (∀ r2, (s.env.drawAt 1).exchange = some r2 → ∀ (i : Instr) (a : RegAddr),
            i = .rdreg a ∨ (i = .rderr ∧ a = .errFlag) ∨ i = .frameR a → exec i s = .next { s with
              busy := true, phase := .deassert, sel := .active, pend := failureOf r2
              trace := s.trace ++ [.selAssert (.ok ()), .exchange (readFrameAt a.number) r2]
              env := s.env.advance 2 })
          ∧ ∀ r2, (s.env.drawAt 1).write = some r2 → ∀ (i : Instr) (tx : Byte × Byte),
              (∃ c, i = .wrerr c ∧ tx = (0x47, c.code.setWidth 8))
                ∨ (∃ a v, i = .frameW a v ∧ tx = (BitVec.ofNat 8 (64 + a.number), v)) → exec i s = .next { s with
                  busy := true, phase := .deassert, sel := .active, pend := failureOf r2
                  trace := s.trace ++ [.selAssert (.ok ()), .write tx r2]
                  env := s.env.advance 2 }

/-- WRALL, every call answered ok: nine framed writes of the current images in the fixed order, status OK. Spec: 43_composite_ops.md R190, 43_composite_ops.md R191, 20_memory.md R58, 30_encoding.md R66. -/
def Obligations.WrallSendsTheNineImagesInOrder : Prop :=
  ∀ s : State, WritesSucceed s 9 →
    exec .wrall s = .next
      { s.after ((writeFrames s.mirror).flatMap writeCalls) .inactive okRecord with seq := 9 }

/-- WRALL adds 27 calls on success; on failure at index k, 3k calls and the 1 or 3 of the failed transaction, then nothing. Spec: R192. -/
def Obligations.WrallTraceAndFirstFailure : Prop :=
  (∀ s : State, WritesSucceed s 9 → ∃ t, exec .wrall s = .next t
      ∧ t.trace = s.trace ++ (writeFrames s.mirror).flatMap writeCalls
      ∧ ((writeFrames s.mirror).flatMap writeCalls).length = 27)
    ∧ ∀ (s : State) (k : Nat) (tx : Byte × Byte), (writeFrames s.mirror)[k]? = some tx → WritesSucceed s k →
        (((writeFrames s.mirror).take k).flatMap writeCalls).length = 3 * k
          ∧ (∀ e1, (s.env.drawAt (3 * k)).sel = some (.error e1) → ∃ t, exec .wrall s = .next t
              ∧ t.trace = s.trace ++ ((writeFrames s.mirror).take k).flatMap writeCalls ++ [.selAssert (.error e1)])
          ∧ ∀ r2 r3, WriteAnswers s (3 * k) (.ok ()) r2 r3 → (r2 ≠ .ok () ∨ r3 ≠ .ok ()) → ∃ t, exec .wrall s = .next t
              ∧ t.trace = s.trace ++ ((writeFrames s.mirror).take k).flatMap writeCalls
                  ++ [.selAssert (.ok ()), .write tx r2, .selDeassert r3]

/-- WRALL stops at the first failing write, with its error and seq at that index, every field register kept. Spec: 43_composite_ops.md R191, 43_composite_ops.md R193, 60_exceptions.md R207, 60_exceptions.md R209. That a deassert failure masks a transfer failure is the choice D10: assumption log 7. -/
def Obligations.WrallStopsAtItsFirstFailure : Prop :=
  ∀ (s : State) (k : Nat) (tx : Byte × Byte), (writeFrames s.mirror)[k]? = some tx → WritesSucceed s k →
    let before := ((writeFrames s.mirror).take k).flatMap writeCalls
    (∀ e1, (s.env.drawAt (3 * k)).sel = some (.error e1) →
        exec .wrall s = .next { s.after (before ++ [.selAssert (.error e1)]) .unknown (selectRecord e1) with seq := k })
      ∧ ∀ r2 r3 r, WriteAnswers s (3 * k) (.ok ()) r2 r3 → (courseRow (.write tx) r2 r3).outcome = .error r →
          exec .wrall s = .next
            { s.after (before ++ (courseRow (.write tx) r2 r3).calls) (courseRow (.write tx) r2 r3).line
                (resultOf (fun _ => okRecord) (.error r : Except Raise Unit)) with seq := k }

/-- RDALL, every call answered ok: ten framed exchanges in ascending order, buf the ten second bytes. Spec: 43_composite_ops.md R190, 43_composite_ops.md R194, 30_encoding.md R66. -/
def Obligations.RdallReadsTheTenRegistersInOrder : Prop :=
  ∀ (s : State) (rx : Nat → Byte × Byte), ReadsSucceed s 10 rx →
    exec .rdall s = .next
      { s.after ((List.range 10).flatMap fun k => readCalls (readFrameAt k) (rx k)) .inactive
          (bufRecord (Vector.ofFn fun k => (rx k).2)) with
        seq := 10, rxbuf := Vector.ofFn fun k => (rx k).2 }

/-- RDALL stops at the first failing read, with its error, no buffer in the result, and seq at that index. Spec: 43_composite_ops.md R194, 60_exceptions.md R207, 60_exceptions.md R209. That a deassert failure masks a transfer failure is the choice D10: assumption log 7. -/
def Obligations.RdallStopsAtItsFirstFailure : Prop :=
  ∀ (s : State) (rx : Nat → Byte × Byte) (k : Nat), k < 10 → ReadsSucceed s k rx →
    let before := (List.range k).flatMap fun j => readCalls (readFrameAt j) (rx j)
    (∀ e1, (s.env.drawAt (3 * k)).sel = some (.error e1) →
        ∃ b, exec .rdall s = .next
          { s.after (before ++ [.selAssert (.error e1)]) .unknown (selectRecord e1) with seq := k, rxbuf := b })
      ∧ ∀ r2 r3 r, ReadAnswers s (3 * k) (.ok ()) r2 r3 →
          (courseRow (.exchange (readFrameAt k)) r2 r3).outcome = .error r →
            ∃ b, exec .rdall s = .next
              { s.after (before ++ (courseRow (.exchange (readFrameAt k)) r2 r3).calls)
                  (courseRow (.exchange (readFrameAt k)) r2 r3).line
                  (resultOf (fun _ => okRecord) (.error r : Except Raise Unit)) with seq := k, rxbuf := b }

/-- No bus command changes a field register, whether it succeeds, fails or waits; what was read goes to the result only. Spec: R53. -/
def Obligations.BusCommandsNeverChangeTheMirror : Prop :=
  ∀ (i : Instr) (s t : State), makesCalls i = true → exec i s = .next t →
    t = { s with
          busy := t.busy, phase := t.phase, pend := t.pend, sel := t.sel, result := t.result
          trace := t.trace, env := t.env, seq := t.seq, rxbuf := t.rxbuf }
      ∧ (i ≠ .wrall → i ≠ .rdall → t.seq = s.seq) ∧ (i ≠ .rdall → t.rxbuf = s.rxbuf)
      ∧ t.env.script = s.env.script

/-- A presented record has exactly the parts its status and command define. Spec: 10_state.md R31, 60_exceptions.md R205, 60_exceptions.md R209, 60_exceptions.md R204. -/
def Obligations.ResultPartsAreDefinedAsTheTableSays : Prop :=
  (∀ (i : Instr) (s t : State), (∀ a v, i ≠ .frameW a v) → (∀ a, i ≠ .frameR a) →
      exec i s = .next t → t.busy = false →
        ∃ r, t.result = some r ∧ r.status ≠ .illegal ∧ (makesCalls i = false → r.status = .ok)
          ∧ (r.err.isSome = true ↔ r.status ≠ .ok)
          ∧ (∀ e, r.err = some (.select e) → r.status = .selectErr)
          ∧ (∀ e, r.err = some (.bus e) → r.status = .busErr)
          ∧ (r.data.isSome = true ↔ r.status = .ok ∧ ((getterTarget i).isSome = true ∨ ∃ a, i = .rdreg a))
          ∧ (r.buf.isSome = true ↔ r.status = .ok ∧ i = .rdall)
          ∧ (r.flags.isSome = true ↔ r.status = .ok ∧ i = .rderr))
    ∧ Status.code .ok = 0 ∧ Status.code .selectErr = 1 ∧ Status.code .busErr = 2 ∧ Status.code .illegal = 3

/-- A bus command that ends leaves the unit idle, with no failure pending, whether it ended OK or in an error. Spec: 60_exceptions.md R209, 60_exceptions.md R210, 43_composite_ops.md R197, 10_state.md R28. -/
def Obligations.ErrorsLeaveTheUnitIdle : Prop :=
  ∀ (i : Instr) (s t : State), makesCalls i = true → exec i s = .next t →
    (t.busy = false ∧ t.phase = .idle ∧ t.pend = none) ∨ (t.busy = true ∧ t.phase ≠ .idle)

/-- After a bus command that ended, SEL is unknown if it returned SELECT_ERR and inactive otherwise. Spec: 42_bus_transactions.md R170, 10_state.md R32, 70_reset_and_hazards.md R241. That BUS_ERR always leaves the line inactive rests on the choice D10: assumption log 7. -/
def Obligations.SelectLineAfterABusCommand : Prop :=
  ∀ (i : Instr) (s t : State) (r : Result), makesCalls i = true → exec i s = .next t →
    t.busy = false → t.result = some r → t.sel = if r.status = .selectErr then .unknown else .inactive

/-- A setter or accessor makes no call, a single-transaction command 1 or 3, WRALL at most 27, RDALL at most 30. Spec: 70_reset_and_hazards.md R250, 43_composite_ops.md R196, 42_bus_transactions.md R178. That a waiting command has recorded fewer than 3 calls is the model's choice: assumption log 22. -/
def Obligations.CallCountsPerCommand : Prop :=
  ∀ (i : Instr) (s t : State), exec i s = .next t →
    ∃ calls, t.trace = s.trace ++ calls ∧ t.env = s.env.advance calls.length
      ∧ (makesCalls i = false → calls = [])
      ∧ (i ≠ .wrall → i ≠ .rdall → makesCalls i = true →
          (t.busy = false → calls.length = 1 ∨ calls.length = 3) ∧ (t.busy = true → calls.length < 3))
      ∧ (i = .wrall → calls.length ≤ 27) ∧ (i = .rdall → calls.length ≤ 30)

/-- Every frame a host command sends is in the table of R66, sent by the command that table names. Spec: 30_encoding.md R66, 30_encoding.md R63, 30_encoding.md R64, 30_encoding.md R65. The spec derives R66 from R63 to R65. -/
def Obligations.FramesSentAreTheListedOnes : Prop :=
  ∀ (i : Instr) (s t : State), (∀ a v, i ≠ .frameW a v) → (∀ a, i ≠ .frameR a) → exec i s = .next t →
    ∃ calls, t.trace = s.trace ++ calls
      ∧ (∀ tx r, TraceEntry.write tx r ∈ calls →
          (i = .wrall ∧ tx.1 ∈ [0x40, 0x41, 0x42, 0x43, 0x44, 0x45, 0x46, 0x48, 0x49] ∧ tx ∈ writeFrames s.mirror)
            ∨ ((∃ c, i = .wrerr c) ∧ tx.1 = 0x47 ∧ tx.2.toNat ≤ 3))
      ∧ ∀ tx r, TraceEntry.exchange tx r ∈ calls →
          ((∃ a, i = .rdreg a) ∨ i = .rdall ∨ i = .rderr) ∧ tx.1.toNat ≤ 9 ∧ tx.2 = 0xFF

/-- Which calls a command makes depends only on whether the answers are ok, never on a field or on a byte read. Spec: 43_composite_ops.md R196, 42_bus_transactions.md R178. -/
def Obligations.NoDataValueChangesTheCalls : Prop :=
  ∀ (i : Instr) (s1 s2 t1 t2 : State), (∀ k, SameAnswers (s1.env.drawAt k) (s2.env.drawAt k)) →
    exec i s1 = .next t1 → exec i s2 = .next t2 →
      (∃ c, t1.trace.map shapeOf = s1.trace.map shapeOf ++ c ∧ t2.trace.map shapeOf = s2.trace.map shapeOf ++ c)
        ∧ t1.busy = t2.busy ∧ (i = .wrall ∨ i = .rdall → t1.seq = t2.seq)

/-- Every step keeps the invariant: idle between transactions, whole select frames, SEL as the calls say, seq at most 10, legal frames. Spec: 10_state.md R27, 10_state.md R28, 10_state.md R29, 10_state.md R32, 20_memory.md R51, 42_bus_transactions.md R170, 30_encoding.md R66, 42_bus_transactions.md R174. The model's choices: what the trace and phase of a waiting unit hold (assumption log 22), SEL inactive after RST, D18 (assumption log 9), and the positions and codes that say which byte a write frame may carry (assumption logs 3 and 6). -/
def Obligations.StepKeepsTheInvariant : Prop :=
  ∀ s t : State, s.Inv → step s = .next t → t.Inv

/-- The reset state meets the invariant. Spec: 10_state.md R35. SEL inactive at reset is the choice D18: assumption log 9. -/
def Obligations.ResetMeetsTheInvariant : Prop := State.reset.Inv

/-- An idle unit never records the line as active, and records it inactive if no select call has failed since reset. Spec: 70_reset_and_hazards.md R241, 60_exceptions.md R219. SEL inactive at reset is the choice D18: assumption log 9. -/
def Obligations.IdleLineIsInactiveWithoutSelectError : Prop :=
  ∀ s : State, s.Inv → s.busy = false →
    s.sel ≠ .active ∧ ((∀ e ∈ s.trace, selectFailed e = false) → s.sel = .inactive)

/-- No input of the host writes one configuration register: only WRALL writes them, and only WRERR writes address 7. Spec: 70_reset_and_hazards.md R245, 30_encoding.md R91, 92_eei_decisions.md D12, 90_conflicts.md C4. The placed primitive is the model's: assumption log 15. -/
def Obligations.OnlyWrallWritesAConfigurationRegister : Prop :=
  ∀ s t : State, s.primitive = none → step s = .next t →
    t.primitive = none ∧ (t.trace = [] ∨ ∃ calls, t.trace = s.trace ++ calls
      ∧ ∀ tx r, TraceEntry.write tx r ∈ calls → ∃ w rest, s.port = .word w :: rest
          ∧ ((decodeCommand w = .ok .wrall ∧ tx ∈ writeFrames s.mirror)
            ∨ ∃ c, decodeCommand w = .ok (.wrerr c) ∧ tx = (0x47, c.code.setWidth 8)))

/-- The byte a write frame may carry is exactly a packed image of its register, or for ErrFlag a control code. Spec: 30_encoding.md R64, 30_encoding.md R66, 30_encoding.md R85, 10_state.md R26. The field map and the codes marked G are presumed: assumption logs 3, 4, 6. -/
def Obligations.SendableBytesAreTheImagesAndCodes : Prop :=
  ∀ (a : RegAddr) (v : Byte), a.sends v = true ↔
    (∃ (m : Mirror) (img : Mirror → Byte), imageOf a = some img ∧ img m = v)
      ∨ (a = .errFlag ∧ ∃ c : ErrControl, c.code.setWidth 8 = v)

/-- A frame decodes exactly if it is one the unit can send, and a placed frame that does not is dropped. Spec: 30_encoding.md R63, 30_encoding.md R64, 30_encoding.md R65, 30_encoding.md R66. What the decoder does with an unsendable frame is the model's choice: assumption logs 15 and 29. -/
def Obligations.FramesDecodeAsTheirRows : Prop :=
  (∀ (f : FrameWord) (a : RegAddr) (v : Byte), decodeFrame f = .ok (.frameW a v) ↔
      f.toNat = (64 + a.number) * 256 + v.toNat ∧ a.sends v = true)
    ∧ (∀ (f : FrameWord) (a : RegAddr), decodeFrame f = .ok (.frameR a) ↔ f.toNat = a.number * 256 + 255)
    ∧ (∀ (f : FrameWord) (i : Instr), decodeFrame f = .ok i → (∃ a v, i = .frameW a v) ∨ ∃ a, i = .frameR a)
    ∧ ∀ (s : State) (f : FrameWord) (e : DecodeError), s.busy = false → s.primitive = some f →
        decodeFrame f = .error e → step s = .next { s with primitive := none }

/-- Config1 is always sent with bits 7:6 zero, by a step from any state that meets the invariant. Spec: 70_reset_and_hazards.md R247, 10_state.md R17, 10_state.md R26. The positions of Config1 are presumed: assumption log 3. -/
def Obligations.Config1IsSentWithItsReservedBitsZero : Prop :=
  ∀ s t : State, s.Inv → step s = .next t → ∀ tx r, TraceEntry.write tx r ∈ t.trace →
    tx.1 = 0x41 → tx.2.getLsbD 7 = false ∧ tx.2.getLsbD 6 = false
end

