-- ==== Sys2Proof/Laws/State.lean ====
section
/-! SUPPORT. One lemma per field per update of the state, true by `rfl`, and the two lemmas of the
environment's draws. -/

namespace Sys2Proof.Machine

@[simp] theorem State.accept_mirror (s : State) : s.accept.mirror = s.mirror := rfl
@[simp] theorem State.accept_busy (s : State) : s.accept.busy = true := rfl
@[simp] theorem State.accept_seq (s : State) : s.accept.seq = s.seq := rfl
@[simp] theorem State.accept_phase (s : State) : s.accept.phase = s.phase := rfl
@[simp] theorem State.accept_pend (s : State) : s.accept.pend = s.pend := rfl
@[simp] theorem State.accept_rxbuf (s : State) : s.accept.rxbuf = s.rxbuf := rfl
@[simp] theorem State.accept_sel (s : State) : s.accept.sel = s.sel := rfl
@[simp] theorem State.accept_result (s : State) : s.accept.result = s.result := rfl
@[simp] theorem State.accept_trace (s : State) : s.accept.trace = s.trace := rfl
@[simp] theorem State.accept_env (s : State) : s.accept.env = s.env := rfl
@[simp] theorem State.accept_port (s : State) : s.accept.port = s.port := rfl
@[simp] theorem State.accept_primitive (s : State) : s.accept.primitive = s.primitive := rfl

@[simp] theorem State.present_mirror (s : State) (r : Result) : (s.present r).mirror = s.mirror := rfl
@[simp] theorem State.present_busy (s : State) (r : Result) : (s.present r).busy = false := rfl
@[simp] theorem State.present_seq (s : State) (r : Result) : (s.present r).seq = s.seq := rfl
@[simp] theorem State.present_phase (s : State) (r : Result) : (s.present r).phase = s.phase := rfl
@[simp] theorem State.present_pend (s : State) (r : Result) : (s.present r).pend = s.pend := rfl
@[simp] theorem State.present_rxbuf (s : State) (r : Result) : (s.present r).rxbuf = s.rxbuf := rfl
@[simp] theorem State.present_sel (s : State) (r : Result) : (s.present r).sel = s.sel := rfl
@[simp] theorem State.present_result (s : State) (r : Result) : (s.present r).result = some r := rfl
@[simp] theorem State.present_trace (s : State) (r : Result) : (s.present r).trace = s.trace := rfl
@[simp] theorem State.present_env (s : State) (r : Result) : (s.present r).env = s.env := rfl
@[simp] theorem State.present_port (s : State) (r : Result) : (s.present r).port = s.port := rfl
@[simp] theorem State.present_primitive (s : State) (r : Result) : (s.present r).primitive = s.primitive := rfl

@[simp] theorem State.enterError_mirror (s : State) (r : Raise) : (s.enterError r).mirror = s.mirror := rfl
@[simp] theorem State.enterError_busy (s : State) (r : Raise) : (s.enterError r).busy = false := rfl
@[simp] theorem State.enterError_seq (s : State) (r : Raise) : (s.enterError r).seq = s.seq := rfl
@[simp] theorem State.enterError_phase (s : State) (r : Raise) : (s.enterError r).phase = .idle := rfl
@[simp] theorem State.enterError_pend (s : State) (r : Raise) : (s.enterError r).pend = none := rfl
@[simp] theorem State.enterError_rxbuf (s : State) (r : Raise) : (s.enterError r).rxbuf = s.rxbuf := rfl
@[simp] theorem State.enterError_sel (s : State) (r : Raise) : (s.enterError r).sel = s.sel := rfl
@[simp] theorem State.enterError_result (s : State) (r : Raise) : (s.enterError r).result = some (Result.failed r) := rfl
@[simp] theorem State.enterError_trace (s : State) (r : Raise) : (s.enterError r).trace = s.trace := rfl
@[simp] theorem State.enterError_env (s : State) (r : Raise) : (s.enterError r).env = s.env := rfl
@[simp] theorem State.enterError_port (s : State) (r : Raise) : (s.enterError r).port = s.port := rfl
@[simp] theorem State.enterError_primitive (s : State) (r : Raise) : (s.enterError r).primitive = s.primitive := rfl

@[simp] theorem State.setMirror_mirror (s : State) (m : Mirror) : (s.setMirror m).mirror = m := rfl
@[simp] theorem State.setMirror_busy (s : State) (m : Mirror) : (s.setMirror m).busy = false := rfl
@[simp] theorem State.setMirror_seq (s : State) (m : Mirror) : (s.setMirror m).seq = s.seq := rfl
@[simp] theorem State.setMirror_phase (s : State) (m : Mirror) : (s.setMirror m).phase = s.phase := rfl
@[simp] theorem State.setMirror_pend (s : State) (m : Mirror) : (s.setMirror m).pend = s.pend := rfl
@[simp] theorem State.setMirror_rxbuf (s : State) (m : Mirror) : (s.setMirror m).rxbuf = s.rxbuf := rfl
@[simp] theorem State.setMirror_sel (s : State) (m : Mirror) : (s.setMirror m).sel = s.sel := rfl
@[simp] theorem State.setMirror_result (s : State) (m : Mirror) : (s.setMirror m).result = some Result.done := rfl
@[simp] theorem State.setMirror_trace (s : State) (m : Mirror) : (s.setMirror m).trace = s.trace := rfl
@[simp] theorem State.setMirror_env (s : State) (m : Mirror) : (s.setMirror m).env = s.env := rfl
@[simp] theorem State.setMirror_port (s : State) (m : Mirror) : (s.setMirror m).port = s.port := rfl
@[simp] theorem State.setMirror_primitive (s : State) (m : Mirror) : (s.setMirror m).primitive = s.primitive := rfl

@[simp] theorem State.record_mirror (s : State) (e : TraceEntry) : (s.record e).mirror = s.mirror := rfl
@[simp] theorem State.record_busy (s : State) (e : TraceEntry) : (s.record e).busy = s.busy := rfl
@[simp] theorem State.record_seq (s : State) (e : TraceEntry) : (s.record e).seq = s.seq := rfl
@[simp] theorem State.record_phase (s : State) (e : TraceEntry) : (s.record e).phase = s.phase := rfl
@[simp] theorem State.record_pend (s : State) (e : TraceEntry) : (s.record e).pend = s.pend := rfl
@[simp] theorem State.record_rxbuf (s : State) (e : TraceEntry) : (s.record e).rxbuf = s.rxbuf := rfl
@[simp] theorem State.record_sel (s : State) (e : TraceEntry) : (s.record e).sel = s.sel := rfl
@[simp] theorem State.record_result (s : State) (e : TraceEntry) : (s.record e).result = s.result := rfl
@[simp] theorem State.record_trace (s : State) (e : TraceEntry) : (s.record e).trace = s.trace ++ [e] := rfl
@[simp] theorem State.record_env (s : State) (e : TraceEntry) : (s.record e).env = s.env.advance 1 := rfl
@[simp] theorem State.record_port (s : State) (e : TraceEntry) : (s.record e).port = s.port := rfl
@[simp] theorem State.record_primitive (s : State) (e : TraceEntry) : (s.record e).primitive = s.primitive := rfl

@[simp] theorem State.after_mirror (s : State) (cs : List TraceEntry) (l : SelLine) (r : Result) : (s.after cs l r).mirror = s.mirror := rfl
@[simp] theorem State.after_busy (s : State) (cs : List TraceEntry) (l : SelLine) (r : Result) : (s.after cs l r).busy = false := rfl
@[simp] theorem State.after_seq (s : State) (cs : List TraceEntry) (l : SelLine) (r : Result) : (s.after cs l r).seq = s.seq := rfl
@[simp] theorem State.after_phase (s : State) (cs : List TraceEntry) (l : SelLine) (r : Result) : (s.after cs l r).phase = .idle := rfl
@[simp] theorem State.after_pend (s : State) (cs : List TraceEntry) (l : SelLine) (r : Result) : (s.after cs l r).pend = none := rfl
@[simp] theorem State.after_rxbuf (s : State) (cs : List TraceEntry) (l : SelLine) (r : Result) : (s.after cs l r).rxbuf = s.rxbuf := rfl
@[simp] theorem State.after_sel (s : State) (cs : List TraceEntry) (l : SelLine) (r : Result) : (s.after cs l r).sel = l := rfl
@[simp] theorem State.after_result (s : State) (cs : List TraceEntry) (l : SelLine) (r : Result) : (s.after cs l r).result = some r := rfl
@[simp] theorem State.after_trace (s : State) (cs : List TraceEntry) (l : SelLine) (r : Result) : (s.after cs l r).trace = s.trace ++ cs := rfl
@[simp] theorem State.after_env (s : State) (cs : List TraceEntry) (l : SelLine) (r : Result) : (s.after cs l r).env = s.env.advance cs.length := rfl
@[simp] theorem State.after_port (s : State) (cs : List TraceEntry) (l : SelLine) (r : Result) : (s.after cs l r).port = s.port := rfl
@[simp] theorem State.after_primitive (s : State) (cs : List TraceEntry) (l : SelLine) (r : Result) : (s.after cs l r).primitive = s.primitive := rfl

@[simp] theorem Env.advance_calls (e : Env) (n : Nat) : (e.advance n).calls = e.calls + n := rfl
@[simp] theorem Env.advance_script (e : Env) (n : Nat) : (e.advance n).script = e.script := rfl

@[simp] theorem Env.advance_zero (e : Env) : e.advance 0 = e := rfl

@[simp] theorem Env.advance_advance (e : Env) (n k : Nat) : (e.advance n).advance k = e.advance (n + k) := by
  simp [Env.advance, Nat.add_assoc]

/-- After `n` answered calls the environment's next answers are those `n` places on. -/
@[simp] theorem Env.drawAt_advance (e : Env) (n k : Nat) : (e.advance n).drawAt k = e.drawAt (n + k) := by
  simp [Env.advance, Env.drawAt, Nat.add_assoc]

end Sys2Proof.Machine
end

