-- ==== Sys2Proof/Laws/Codes.lean ====
section
/-! SUPPORT. The code tables and the word fields: searching a code table finds the variant a code came
from, and cutting a command word gives the three fields it was made of. -/

namespace Sys2Proof

/-- A found variant has the code that was looked for. -/
theorem variantOf_some {α : Type} {w : Nat} {variants : List α} {code : α → BitVec w} {imm : BitVec 16} {v : α}
    (h : variantOf variants code imm = some v) : (code v).setWidth 16 = imm := by
  simpa using List.find?_some h

theorem TxFrequencyDivider.variantOf_code (v : TxFrequencyDivider) :
    variantOf TxFrequencyDivider.variants TxFrequencyDivider.code (v.code.setWidth 16) = some v := by cases v <;> rfl

theorem MeasurementCycles.variantOf_code (v : MeasurementCycles) :
    variantOf MeasurementCycles.variants MeasurementCycles.code (v.code.setWidth 16) = some v := by cases v <;> rfl

theorem ReceiveEvents.variantOf_code (v : ReceiveEvents) :
    variantOf ReceiveEvents.variants ReceiveEvents.code (v.code.setWidth 16) = some v := by cases v <;> rfl

theorem VoltageReference.variantOf_code (v : VoltageReference) :
    variantOf VoltageReference.variants VoltageReference.code (v.code.setWidth 16) = some v := by cases v <;> rfl

theorem MeasurementMode.variantOf_code (v : MeasurementMode) :
    variantOf MeasurementMode.variants MeasurementMode.code (v.code.setWidth 16) = some v := by cases v <;> rfl

theorem Switch.variantOf_code (v : Switch) :
    variantOf Switch.variants Switch.code (v.code.setWidth 16) = some v := by cases v <;> rfl

theorem ChannelSelect.variantOf_code (v : ChannelSelect) :
    variantOf ChannelSelect.variants ChannelSelect.code (v.code.setWidth 16) = some v := by cases v <;> rfl

theorem TofMeasMode.variantOf_code (v : TofMeasMode) :
    variantOf TofMeasMode.variants TofMeasMode.code (v.code.setWidth 16) = some v := by cases v <;> rfl

theorem TempMode.variantOf_code (v : TempMode) :
    variantOf TempMode.variants TempMode.code (v.code.setWidth 16) = some v := by cases v <;> rfl

theorem TempRtdSelect.variantOf_code (v : TempRtdSelect) :
    variantOf TempRtdSelect.variants TempRtdSelect.code (v.code.setWidth 16) = some v := by cases v <;> rfl

theorem TempClockDivider.variantOf_code (v : TempClockDivider) :
    variantOf TempClockDivider.variants TempClockDivider.code (v.code.setWidth 16) = some v := by cases v <;> rfl

theorem EchoThreshold.variantOf_code (v : EchoThreshold) :
    variantOf EchoThreshold.variants EchoThreshold.code (v.code.setWidth 16) = some v := by cases v <;> rfl

theorem ReceiveMode.variantOf_code (v : ReceiveMode) :
    variantOf ReceiveMode.variants ReceiveMode.code (v.code.setWidth 16) = some v := by cases v <;> rfl

theorem TriggerEdge.variantOf_code (v : TriggerEdge) :
    variantOf TriggerEdge.variants TriggerEdge.code (v.code.setWidth 16) = some v := by cases v <;> rfl

theorem PgaGain.variantOf_code (v : PgaGain) :
    variantOf PgaGain.variants PgaGain.code (v.code.setWidth 16) = some v := by cases v <;> rfl

theorem AmpControl.variantOf_code (v : AmpControl) :
    variantOf AmpControl.variants AmpControl.code (v.code.setWidth 16) = some v := by cases v <;> rfl

theorem LnaFeedback.variantOf_code (v : LnaFeedback) :
    variantOf LnaFeedback.variants LnaFeedback.code (v.code.setWidth 16) = some v := by cases v <;> rfl

theorem ShortTofBlankPeriod.variantOf_code (v : ShortTofBlankPeriod) :
    variantOf ShortTofBlankPeriod.variants ShortTofBlankPeriod.code (v.code.setWidth 16) = some v := by cases v <;> rfl

theorem EchoTimeout.variantOf_code (v : EchoTimeout) :
    variantOf EchoTimeout.variants EchoTimeout.code (v.code.setWidth 16) = some v := by cases v <;> rfl

theorem TofTimeoutControl.variantOf_code (v : TofTimeoutControl) :
    variantOf TofTimeoutControl.variants TofTimeoutControl.code (v.code.setWidth 16) = some v := by cases v <;> rfl

theorem ClockInDivider.variantOf_code (v : ClockInDivider) :
    variantOf ClockInDivider.variants ClockInDivider.code (v.code.setWidth 16) = some v := by cases v <;> rfl

theorem AutoZeroPeriod.variantOf_code (v : AutoZeroPeriod) :
    variantOf AutoZeroPeriod.variants AutoZeroPeriod.code (v.code.setWidth 16) = some v := by cases v <;> rfl

theorem ErrControl.variantOf_code (v : ErrControl) :
    variantOf ErrControl.variants ErrControl.code (v.code.setWidth 16) = some v := by cases v <;> rfl

theorem RegAddr.ofNumber_number (a : RegAddr) : RegAddr.ofNumber a.number = some a := by cases a <;> rfl

theorem RegAddr.ofNumber_some {n : Nat} {a : RegAddr} (h : RegAddr.ofNumber n = some a) : a.number = n := by
  simpa using List.find?_some h

theorem RegAddr.number_lt (a : RegAddr) : a.number < 10 := by cases a <;> decide

/-- A command word as a number (spec R73). -/
theorem commandWord_toNat (op : BitVec 3) (sel : BitVec 5) (imm : BitVec 16) :
    (commandWord op sel imm).toNat = op.toNat * 2 ^ 21 + sel.toNat * 2 ^ 16 + imm.toNat := by
  have h : op.toNat <<< 5 ||| sel.toNat = 2 ^ 5 * op.toNat + sel.toNat := by
    rw [Nat.shiftLeft_eq, Nat.mul_comm, Nat.two_pow_add_eq_or_of_lt sel.isLt]
  rw [commandWord, BitVec.toNat_append, BitVec.toNat_append, h, Nat.shiftLeft_eq, Nat.mul_comm,
    ← Nat.two_pow_add_eq_or_of_lt imm.isLt]
  omega

theorem opOf_toNat (w : CommandWord) : (opOf w).toNat = w.toNat / 2 ^ 21 := by
  have := w.isLt
  simp only [opOf, BitVec.extractLsb'_toNat, Nat.shiftRight_eq_div_pow]
  omega

theorem selOf_toNat (w : CommandWord) : (selOf w).toNat = w.toNat / 2 ^ 16 % 2 ^ 5 := by
  simp only [selOf, BitVec.extractLsb'_toNat, Nat.shiftRight_eq_div_pow]

theorem immOf_toNat (w : CommandWord) : (immOf w).toNat = w.toNat % 2 ^ 16 := by
  simp [immOf, BitVec.extractLsb'_toNat]

@[simp] theorem opOf_commandWord (op : BitVec 3) (sel : BitVec 5) (imm : BitVec 16) :
    opOf (commandWord op sel imm) = op := by
  apply BitVec.eq_of_toNat_eq
  rw [opOf_toNat, commandWord_toNat]
  have := sel.isLt; have := imm.isLt
  omega

@[simp] theorem selOf_commandWord (op : BitVec 3) (sel : BitVec 5) (imm : BitVec 16) :
    selOf (commandWord op sel imm) = sel := by
  apply BitVec.eq_of_toNat_eq
  rw [selOf_toNat, commandWord_toNat]
  have := sel.isLt; have := imm.isLt
  omega

@[simp] theorem immOf_commandWord (op : BitVec 3) (sel : BitVec 5) (imm : BitVec 16) :
    immOf (commandWord op sel imm) = imm := by
  apply BitVec.eq_of_toNat_eq
  rw [immOf_toNat, commandWord_toNat]
  have := imm.isLt
  omega

/-- A command word is made of its three fields (spec R72). -/
theorem commandWord_of_fields (w : CommandWord) : commandWord (opOf w) (selOf w) (immOf w) = w := by
  apply BitVec.eq_of_toNat_eq
  rw [commandWord_toNat, opOf_toNat, selOf_toNat, immOf_toNat]
  omega

theorem frameWord_toNat (tx : Byte × Byte) : (frameWord tx).toNat = tx.1.toNat * 2 ^ 8 + tx.2.toNat := by
  rw [frameWord, BitVec.toNat_append, Nat.shiftLeft_eq, Nat.mul_comm, ← Nat.two_pow_add_eq_or_of_lt tx.2.isLt]

theorem txAddress_toNat (w : FrameWord) : (txAddress w).toNat = w.toNat / 2 ^ 8 := by
  have := w.isLt
  simp only [txAddress, BitVec.extractLsb'_toNat, Nat.shiftRight_eq_div_pow]
  omega

theorem txData_toNat (w : FrameWord) : (txData w).toNat = w.toNat % 2 ^ 8 := by
  simp [txData, BitVec.extractLsb'_toNat]

@[simp] theorem txAddress_frameWord (tx : Byte × Byte) : txAddress (frameWord tx) = tx.1 := by
  apply BitVec.eq_of_toNat_eq
  rw [txAddress_toNat, frameWord_toNat]
  have := tx.2.isLt
  omega

@[simp] theorem txData_frameWord (tx : Byte × Byte) : txData (frameWord tx) = tx.2 := by
  apply BitVec.eq_of_toNat_eq
  rw [txData_toNat, frameWord_toNat]
  have := tx.2.isLt
  omega

/-- A frame word is made of its two bytes (spec R64). -/
theorem frameWord_of_bytes (w : FrameWord) : frameWord (txAddress w, txData w) = w := by
  apply BitVec.eq_of_toNat_eq
  rw [frameWord_toNat, txAddress_toNat, txData_toNat]
  omega

/-- A raw operand that fits is recovered from its `imm` (spec R74: `raw` is `sext_16(imm)`). -/
theorem toInt_ofInt_of_fitsImm {raw : Int} (h : fitsImm raw = true) : (BitVec.ofInt 16 raw).toInt = raw := by
  simp only [fitsImm, Bool.and_eq_true, decide_eq_true_eq] at h
  rw [BitVec.toInt_ofInt, Int.bmod_eq_of_le] <;> omega

/-- Every `imm` is the encoding of an operand that fits. -/
theorem fitsImm_toInt (imm : BitVec 16) : fitsImm imm.toInt = true := by
  have h1 := imm.le_toInt; have h2 := imm.toInt_lt
  simp only [fitsImm, Bool.and_eq_true, decide_eq_true_eq]
  omega

end Sys2Proof
end

