-- ==== Sys2Proof/Laws/Ops.lean ====
section
/-! SUPPORT. What each shared operation can do, said once: the transfer calls, the transaction, the two
primitives, the composite loops and the end of a command. -/

namespace Sys2Proof.Machine

/-- The state while a transaction begun at `s` waits for an answer: in phase `p`, with the calls made so
far (assumption log 22). -/
def State.waiting (s : State) (p : Phase) (pend : Option BusErr) (line : SelLine) (calls : List TraceEntry) :
    State :=
  { s with phase := p, pend := pend, sel := line, trace := s.trace ++ calls, env := s.env.advance calls.length }

/-- The state after a transaction that ended: idle again, with the calls made. -/
def State.closed (s : State) (pend : Option BusErr) (line : SelLine) (calls : List TraceEntry) : State :=
  s.waiting .idle pend line calls

section
variable {α : Type} (get : Draw → Option (Except BusErr α)) (entry : Except BusErr α → TraceEntry) (s : State)

/-- The assert is never answered. -/
theorem transact_assert_silent (h : (s.env.drawAt 0).sel = none) :
    transact (callTransfer get entry) s = (.hung, s.waiting .assert s.pend s.sel []) := by
  simp [transact, callAssert, h, State.waiting]

/-- Case 1 of spec R170. -/
theorem transact_assert_fails {e1 : SelErr} (h : (s.env.drawAt 0).sel = some (.error e1)) :
    transact (callTransfer get entry) s
      = (.raised (.select e1), s.closed s.pend .unknown [.selAssert (.error e1)]) := by
  simp [transact, callAssert, h, State.closed, State.waiting, State.record, lineAfterAssert]

/-- The transfer is never answered. -/
theorem transact_transfer_silent (h0 : (s.env.drawAt 0).sel = some (.ok ()))
    (h1 : get (s.env.drawAt 1) = none) :
    transact (callTransfer get entry) s = (.hung, s.waiting .xfer s.pend .active [.selAssert (.ok ())]) := by
  simp [transact, callAssert, callTransfer, h0, h1, State.waiting, State.record, lineAfterAssert]

/-- The deassert is never answered. -/
theorem transact_deassert_silent {r2 : Except BusErr α} (h0 : (s.env.drawAt 0).sel = some (.ok ()))
    (h1 : get (s.env.drawAt 1) = some r2) (h2 : (s.env.drawAt 2).sel = none) :
    transact (callTransfer get entry) s
      = (.hung, s.waiting .deassert (pendingFailure r2) .active [.selAssert (.ok ()), entry r2]) := by
  simp [transact, callAssert, callTransfer, closeTransaction, callDeassert, h0, h1, h2, State.waiting, State.record,
    lineAfterAssert]

/-- What a transaction ends with once its three calls are answered and the assert was `ok`. -/
def closingCourse (r2 : Except BusErr α) (r3 : Except SelErr Unit) : Course α :=
  match r3 with
  | .ok _ => transferCourse r2
  | .error e3 => .raised (deassertFailure e3 r2)

/-- Cases 2 to 5 of spec R170. -/
theorem transact_closes {r2 : Except BusErr α} {r3 : Except SelErr Unit}
    (h0 : (s.env.drawAt 0).sel = some (.ok ())) (h1 : get (s.env.drawAt 1) = some r2)
    (h2 : (s.env.drawAt 2).sel = some r3) :
    transact (callTransfer get entry) s
      = (closingCourse r2 r3,
          s.closed none (lineAfterDeassert r3) [.selAssert (.ok ()), entry r2, .selDeassert r3]) := by
  cases r3 <;>
    simp [transact, callAssert, callTransfer, closeTransaction, callDeassert, h0, h1, h2, State.closed, State.waiting,
      State.record, lineAfterAssert, closingCourse]

/-- Everything a transaction can do. -/
theorem transact_cases :
    ((s.env.drawAt 0).sel = none
        ∧ transact (callTransfer get entry) s = (.hung, s.waiting .assert s.pend s.sel []))
      ∨ (∃ e1, (s.env.drawAt 0).sel = some (.error e1)
        ∧ transact (callTransfer get entry) s
          = (.raised (.select e1), s.closed s.pend .unknown [.selAssert (.error e1)]))
      ∨ ((s.env.drawAt 0).sel = some (.ok ()) ∧ get (s.env.drawAt 1) = none
        ∧ transact (callTransfer get entry) s = (.hung, s.waiting .xfer s.pend .active [.selAssert (.ok ())]))
      ∨ (∃ r2, (s.env.drawAt 0).sel = some (.ok ()) ∧ get (s.env.drawAt 1) = some r2
        ∧ (s.env.drawAt 2).sel = none
        ∧ transact (callTransfer get entry) s
          = (.hung, s.waiting .deassert (pendingFailure r2) .active [.selAssert (.ok ()), entry r2]))
      ∨ (∃ r2 r3, (s.env.drawAt 0).sel = some (.ok ()) ∧ get (s.env.drawAt 1) = some r2
        ∧ (s.env.drawAt 2).sel = some r3
        ∧ transact (callTransfer get entry) s
          = (closingCourse r2 r3,
              s.closed none (lineAfterDeassert r3) [.selAssert (.ok ()), entry r2, .selDeassert r3])) := by
  rcases h0 : (s.env.drawAt 0).sel with _ | e1 | u
  · exact .inl ⟨rfl, transact_assert_silent get entry s h0⟩
  · exact .inr (.inl ⟨e1, rfl, transact_assert_fails get entry s h0⟩)
  · rcases h1 : get (s.env.drawAt 1) with _ | r2
    · exact .inr (.inr (.inl ⟨rfl, rfl, transact_transfer_silent get entry s h0 h1⟩))
    · rcases h2 : (s.env.drawAt 2).sel with _ | r3
      · exact .inr (.inr (.inr (.inl ⟨r2, rfl, rfl, rfl, transact_deassert_silent get entry s h0 h1 h2⟩)))
      · exact .inr (.inr (.inr (.inr ⟨r2, r3, rfl, rfl, rfl, transact_closes get entry s h0 h1 h2⟩)))

/-- A transaction writes `phase`, `pend` and `SEL` (spec R171, R172), and the calls are recorded. -/
theorem transact_frame :
    ∃ p pend line calls, (transact (callTransfer get entry) s).2 = s.waiting p pend line calls := by
  rcases transact_cases get entry s with ⟨_, h⟩ | ⟨_, _, h⟩ | ⟨_, _, h⟩ | ⟨_, _, _, _, h⟩ | ⟨_, _, _, _, _, h⟩ <;>
    exact ⟨_, _, _, _, congrArg Prod.snd h⟩
end

/-! ### The primitives -/

theorem wr_eq (a : RegAddr) (v : Byte) (s : State) :
    wr a v s = transact (callTransfer Draw.write (.write (writeFrame a v))) s := rfl

theorem rd_eq (a : RegAddr) (s : State) :
    rd a s = readByte (transact (callTransfer Draw.exchange (.exchange (readFrame a))) s) := rfl

@[simp] theorem readByte_done (rx : Byte × Byte) (s : State) : readByte (.done rx, s) = (.done rx.2, s) := rfl
@[simp] theorem readByte_raised (r : Raise) (s : State) : readByte (.raised r, s) = (.raised r, s) := rfl
@[simp] theorem readByte_hung (s : State) : readByte (.hung, s) = (.hung, s) := rfl

theorem readByte_state (c : Course (Byte × Byte) × State) : (readByte c).2 = c.2 := by
  rcases c with ⟨_ | _ | _, s⟩ <;> rfl

theorem wr_frame (a : RegAddr) (v : Byte) (s : State) :
    ∃ p pend line calls, (wr a v s).2 = s.waiting p pend line calls :=
  transact_frame _ _ s

theorem rd_frame (a : RegAddr) (s : State) :
    ∃ p pend line calls, (rd a s).2 = s.waiting p pend line calls := by
  rw [rd_eq, readByte_state]
  exact transact_frame _ _ s

/-! ### The end of a command -/

section
variable {α : Type} (ok : State → α → Result) (s : State)

@[simp] theorem finishCommand_done (v : α) : finishCommand ok (.done v, s) = s.present (ok s v) := rfl
@[simp] theorem finishCommand_raised (r : Raise) : finishCommand ok (.raised r, s) = s.enterError r := rfl
@[simp] theorem finishCommand_hung : finishCommand ok (.hung, s) = s := rfl

/-- Everything the end of a command can do. -/
theorem finishCommand_cases (c : Course α × State) :
    (∃ v, c.1 = .done v ∧ finishCommand ok c = c.2.present (ok c.2 v))
      ∨ (∃ r, c.1 = .raised r ∧ finishCommand ok c = c.2.enterError r)
      ∨ (c.1 = .hung ∧ finishCommand ok c = c.2) := by
  rcases c with ⟨v | r | _, s⟩
  · exact .inl ⟨v, rfl, rfl⟩
  · exact .inr (.inl ⟨r, rfl, rfl⟩)
  · exact .inr (.inr ⟨rfl, rfl⟩)
end

/-! ### The composite loops -/

/-- The loop of `WRALL` goes on after a transaction that succeeded. -/
theorem writeFrom_done {a : RegAddr} {pack : Mirror → Byte} {rest : List (RegAddr × (Mirror → Byte))}
    {s t : State} {u : Unit} (h : wr a (pack s.mirror) s = (.done u, t)) :
    writeFrom ((a, pack) :: rest) s = writeFrom rest { t with seq := t.seq + 1 } := by
  simp only [writeFrom, h]

/-- The loop of `WRALL` ends at a transaction that raised. -/
theorem writeFrom_raised {a : RegAddr} {pack : Mirror → Byte} {rest : List (RegAddr × (Mirror → Byte))}
    {s t : State} {r : Raise} (h : wr a (pack s.mirror) s = (.raised r, t)) :
    writeFrom ((a, pack) :: rest) s = (.raised r, t) := by
  simp only [writeFrom, h]

/-- The loop of `WRALL` waits in a transaction that waits. -/
theorem writeFrom_hung {a : RegAddr} {pack : Mirror → Byte} {rest : List (RegAddr × (Mirror → Byte))}
    {s t : State} (h : wr a (pack s.mirror) s = (.hung, t)) :
    writeFrom ((a, pack) :: rest) s = (.hung, t) := by
  simp only [writeFrom, h]

/-- The loop of `RDALL` stores the byte and goes on after a transaction that succeeded. -/
theorem readFrom_done {a : RegAddr} {rest : List RegAddr} {s t : State} {b : Byte}
    (h : rd a s = (.done b, t)) :
    readFrom (a :: rest) s
      = readFrom rest { t with rxbuf := t.rxbuf.setIfInBounds t.seq b, seq := t.seq + 1 } := by
  simp only [readFrom, h]

/-- The loop of `RDALL` ends at a transaction that raised. -/
theorem readFrom_raised {a : RegAddr} {rest : List RegAddr} {s t : State} {r : Raise}
    (h : rd a s = (.raised r, t)) : readFrom (a :: rest) s = (.raised r, t) := by
  simp only [readFrom, h]

/-- The loop of `RDALL` waits in a transaction that waits. -/
theorem readFrom_hung {a : RegAddr} {rest : List RegAddr} {s t : State}
    (h : rd a s = (.hung, t)) : readFrom (a :: rest) s = (.hung, t) := by
  simp only [readFrom, h]

@[simp] theorem forgetBuffer_done (u : Unit) (s : State) : forgetBuffer (.done u, s) = (.done u, s) := rfl
@[simp] theorem forgetBuffer_raised (r : Raise) (s : State) :
    forgetBuffer (.raised r, s) = (.raised r, { s with rxbuf := Config.freeBuffer s.env.calls }) := rfl
@[simp] theorem forgetBuffer_hung (s : State) : forgetBuffer (.hung, s) = (.hung, s) := rfl

/-- Everything `forgetBuffer` can do. -/
theorem forgetBuffer_cases (c : Course Unit × State) :
    (∃ r, c.1 = .raised r ∧ forgetBuffer c = (c.1, { c.2 with rxbuf := Config.freeBuffer c.2.env.calls }))
      ∨ ((∀ r, c.1 ≠ .raised r) ∧ forgetBuffer c = c) := by
  rcases c with ⟨u | r | _, s⟩
  · exact .inr ⟨fun _ h => (by cases h), rfl⟩
  · exact .inl ⟨r, rfl, rfl⟩
  · exact .inr ⟨fun _ h => (by cases h), rfl⟩

/-- A property kept by a successful write and by advancing `seq` holds wherever the loop of `WRALL` ends
or waits. -/
theorem writeFrom_keeps (P : State → Prop)
    (hw : ∀ a v s, P s → P (wr a v s).2) (hs : ∀ s, P s → P { s with seq := s.seq + 1 })
    (order : List (RegAddr × (Mirror → Byte))) (s : State) (h : P s) : P (writeFrom order s).2 := by
  induction order generalizing s with
  | nil => exact h
  | cons x rest ih =>
    obtain ⟨a, pack⟩ := x
    have h1 := hw a (pack s.mirror) s h
    rcases hx : wr a (pack s.mirror) s with ⟨_ | _ | _, t⟩ <;> rw [hx] at h1
    · rw [writeFrom_done hx]; exact ih _ (hs _ h1)
    · rw [writeFrom_raised hx]; exact h1
    · rw [writeFrom_hung hx]; exact h1

/-- The same for the loop of `RDALL`. -/
theorem readFrom_keeps (P : State → Prop) (hr : ∀ a s, P s → P (rd a s).2)
    (hs : ∀ (s : State) (b : Byte), P s →
      P { s with rxbuf := s.rxbuf.setIfInBounds s.seq b, seq := s.seq + 1 })
    (order : List RegAddr) (s : State) (h : P s) : P (readFrom order s).2 := by
  induction order generalizing s with
  | nil => exact h
  | cons a rest ih =>
    have h1 := hr a s h
    rcases hx : rd a s with ⟨b | _ | _, t⟩ <;> rw [hx] at h1
    · rw [readFrom_done hx]; exact ih _ (hs _ b h1)
    · rw [readFrom_raised hx]; exact h1
    · rw [readFrom_hung hx]; exact h1

end Sys2Proof.Machine
end

