-- ==== Sys2Proof/Laws/PerInstr.lean ====
section
/-! SUPPORT. The family `EncodedInTable`: the word of every instruction carries the bits its row of the
opcode table fixes (spec R73, R64, R65). -/

namespace Sys2Proof.Laws.EncodedInTable

/-- What an opcode-table row fixes: the bits under `mask` are those of `pattern`. The rows of the two
transfer primitives are 16 bits wide, the others 24. -/
inductive Row where
  | command (pattern mask : CommandWord)
  | frame (pattern mask : FrameWord)

/-- The row of an instruction, as the opcode table gives it. -/
def row (i : Instr) : Row :=
  match i with
  | .setTxFrequencyDivider _ => .command 0x000000 0xFFFFF8
  | .setTxPulses _ => .command 0x010000 0xFF0000
  | .setMeasurementCycles _ => .command 0x020000 0xFFFFF8
  | .setReceiveEvents _ => .command 0x030000 0xFFFFF8
  | .setVoltageReference _ => .command 0x040000 0xFFFFFE
  | .setMeasurementMode _ => .command 0x050000 0xFFFFFE
  | .setDamping _ => .command 0x060000 0xFFFFFE
  | .setChannelSwap _ => .command 0x070000 0xFFFFFE
  | .setExternalChannelSelect _ => .command 0x080000 0xFFFFFE
  | .setChannelSelect _ => .command 0x090000 0xFFFFFE
  | .setTofMeasMode _ => .command 0x0A0000 0xFFFFFC
  | .setTempMode _ => .command 0x0B0000 0xFFFFFE
  | .setTempRtdSelect _ => .command 0x0C0000 0xFFFFFE
  | .setTempClockDivider _ => .command 0x0D0000 0xFFFFFE
  | .setPowerBlanking _ => .command 0x0E0000 0xFFFFFE
  | .setEchoQualificationThreshold _ => .command 0x0F0000 0xFFFFF8
  | .setReceiveMode _ => .command 0x100000 0xFFFFFE
  | .setTriggerEdgePolarity _ => .command 0x110000 0xFFFFFE
  | .setTxPulseShiftPosition _ => .command 0x120000 0xFF0000
  | .setPgaGain _ => .command 0x130000 0xFFFFF8
  | .setPgaControl _ => .command 0x140000 0xFFFFFE
  | .setLnaControl _ => .command 0x150000 0xFFFFFE
  | .setLnaFeedback _ => .command 0x160000 0xFFFFFE
  | .setTofValue _ => .command 0x170000 0xFF0000
  | .setForceShortTof _ => .command 0x180000 0xFFFFFE
  | .setShortTofBlankPeriod _ => .command 0x190000 0xFFFFF8
  | .setEchoTimeout _ => .command 0x1A0000 0xFFFFFE
  | .setTofTimeoutControl _ => .command 0x1B0000 0xFFFFFC
  | .setClockInDivider _ => .command 0x1C0000 0xFFFFFE
  | .setAutoZeroPeriod _ => .command 0x1D0000 0xFFFFFC
  | .getbConfig0 => .command 0x200000 0xFFFFFF
  | .getbConfig1 => .command 0x210000 0xFFFFFF
  | .getbConfig2 => .command 0x220000 0xFFFFFF
  | .getbConfig3 => .command 0x230000 0xFFFFFF
  | .getbConfig4 => .command 0x240000 0xFFFFFF
  | .getbTof1 => .command 0x250000 0xFFFFFF
  | .getbTof0 => .command 0x260000 0xFFFFFF
  | .getbTimeOut => .command 0x280000 0xFFFFFF
  | .getbClockRate => .command 0x290000 0xFFFFFF
  | .rdreg _ => .command 0x400000 0xE0FFFF
  | .wrerr _ => .command 0x600000 0xFFFFFC
  | .wrall => .command 0x800000 0xFFFFFF
  | .rdall => .command 0xA00000 0xFFFFFF
  | .rderr => .command 0xC00000 0xFFFFFF
  | .frameW _ _ => .frame 0x4000 0xC000
  | .frameR _ => .frame 0x00FF 0xC0FF

/-- A word carries the bits a row fixes. -/
def Matches (w : InstrWord) (r : Row) : Prop :=
  match w, r with
  | .command w, .command pattern mask => w &&& mask = pattern
  | .frame w, .frame pattern mask => w &&& mask = pattern
  | .command _, .frame _ _ => False
  | .frame _, .command _ _ => False

/-- The instruction's word carries the bits its row fixes. -/
def Statement (i : Instr) : Prop := Matches (encode i) (row i)

/-- The word of a clamped setter: the mask covers `op` and `sel` and leaves `imm` free (spec R74). -/
theorem commandWord_and_high (op : BitVec 3) (sel : BitVec 5) (imm : BitVec 16) :
    commandWord op sel imm &&& 0xFF0000 = commandWord op sel 0 := by
  have h : (0xFF0000 : CommandWord) = (0b111#3 ++ 0b11111#5) ++ 0#16 := by decide
  rw [commandWord, commandWord, h, BitVec.and_append, BitVec.and_append,
    show (0b111#3 : BitVec 3) = BitVec.allOnes 3 from rfl, show (0b11111#5 : BitVec 5) = BitVec.allOnes 5 from rfl,
    BitVec.and_allOnes, BitVec.and_allOnes]
  simp

/-- The word of a write frame: the mask covers the two top bits only (spec R64). -/
theorem frameWord_and_top (t v : Byte) : frameWord (t, v) &&& 0xC000 = frameWord (t &&& 0xC0, 0) := by
  have h : (0xC000 : FrameWord) = 0xC0#8 ++ 0#8 := by decide
  rw [frameWord, frameWord, h, BitVec.and_append]
  simp

theorem setTxFrequencyDivider (v : TxFrequencyDivider) : Statement (.setTxFrequencyDivider v) := by
  cases v <;> rfl

theorem setTxPulses (raw : Int) : Statement (.setTxPulses raw) := commandWord_and_high _ _ _

theorem setMeasurementCycles (v : MeasurementCycles) : Statement (.setMeasurementCycles v) := by
  cases v <;> rfl

theorem setReceiveEvents (v : ReceiveEvents) : Statement (.setReceiveEvents v) := by cases v <;> rfl

theorem setVoltageReference (v : VoltageReference) : Statement (.setVoltageReference v) := by cases v <;> rfl

theorem setMeasurementMode (v : MeasurementMode) : Statement (.setMeasurementMode v) := by cases v <;> rfl

theorem setDamping (v : Switch) : Statement (.setDamping v) := by cases v <;> rfl

theorem setChannelSwap (v : Switch) : Statement (.setChannelSwap v) := by cases v <;> rfl

theorem setExternalChannelSelect (v : Switch) : Statement (.setExternalChannelSelect v) := by cases v <;> rfl

theorem setChannelSelect (v : ChannelSelect) : Statement (.setChannelSelect v) := by cases v <;> rfl

theorem setTofMeasMode (v : TofMeasMode) : Statement (.setTofMeasMode v) := by cases v <;> rfl

theorem setTempMode (v : TempMode) : Statement (.setTempMode v) := by cases v <;> rfl

theorem setTempRtdSelect (v : TempRtdSelect) : Statement (.setTempRtdSelect v) := by cases v <;> rfl

theorem setTempClockDivider (v : TempClockDivider) : Statement (.setTempClockDivider v) := by cases v <;> rfl

theorem setPowerBlanking (v : Switch) : Statement (.setPowerBlanking v) := by cases v <;> rfl

theorem setEchoQualificationThreshold (v : EchoThreshold) : Statement (.setEchoQualificationThreshold v) := by
  cases v <;> rfl

theorem setReceiveMode (v : ReceiveMode) : Statement (.setReceiveMode v) := by cases v <;> rfl

theorem setTriggerEdgePolarity (v : TriggerEdge) : Statement (.setTriggerEdgePolarity v) := by cases v <;> rfl

theorem setTxPulseShiftPosition (raw : Int) : Statement (.setTxPulseShiftPosition raw) := commandWord_and_high _ _ _

theorem setPgaGain (v : PgaGain) : Statement (.setPgaGain v) := by cases v <;> rfl

theorem setPgaControl (v : AmpControl) : Statement (.setPgaControl v) := by cases v <;> rfl

theorem setLnaControl (v : AmpControl) : Statement (.setLnaControl v) := by cases v <;> rfl

theorem setLnaFeedback (v : LnaFeedback) : Statement (.setLnaFeedback v) := by cases v <;> rfl

theorem setTofValue (raw : Int) : Statement (.setTofValue raw) := commandWord_and_high _ _ _

theorem setForceShortTof (v : Switch) : Statement (.setForceShortTof v) := by cases v <;> rfl

theorem setShortTofBlankPeriod (v : ShortTofBlankPeriod) : Statement (.setShortTofBlankPeriod v) := by
  cases v <;> rfl

theorem setEchoTimeout (v : EchoTimeout) : Statement (.setEchoTimeout v) := by cases v <;> rfl

theorem setTofTimeoutControl (v : TofTimeoutControl) : Statement (.setTofTimeoutControl v) := by
  cases v <;> rfl

theorem setClockInDivider (v : ClockInDivider) : Statement (.setClockInDivider v) := by cases v <;> rfl

theorem setAutoZeroPeriod (v : AutoZeroPeriod) : Statement (.setAutoZeroPeriod v) := by cases v <;> rfl

theorem getbConfig0 : Statement .getbConfig0 := rfl

theorem getbConfig1 : Statement .getbConfig1 := rfl

theorem getbConfig2 : Statement .getbConfig2 := rfl

theorem getbConfig3 : Statement .getbConfig3 := rfl

theorem getbConfig4 : Statement .getbConfig4 := rfl

theorem getbTof1 : Statement .getbTof1 := rfl

theorem getbTof0 : Statement .getbTof0 := rfl

theorem getbTimeOut : Statement .getbTimeOut := rfl

theorem getbClockRate : Statement .getbClockRate := rfl

theorem rdreg (a : RegAddr) : Statement (.rdreg a) := by cases a <;> rfl

theorem wrerr (c : ErrControl) : Statement (.wrerr c) := by cases c <;> rfl

theorem wrall : Statement .wrall := rfl

theorem rdall : Statement .rdall := rfl

theorem rderr : Statement .rderr := rfl

theorem frameW (a : RegAddr) (v : Byte) : Statement (.frameW a v) :=
  (frameWord_and_top _ _).trans (by cases a <;> rfl)

theorem frameR (a : RegAddr) : Statement (.frameR a) := by cases a <;> rfl

end Sys2Proof.Laws.EncodedInTable
end

