-- ==== Sys2Proof/Laws/Step.lean ====
section
/-! SUPPORT. What one step of the unit can do, said once. -/

namespace Sys2Proof.Machine

section
variable {s : State}

theorem step_busy_reset {rest : List Input} (hb : s.busy = true) (hp : s.port = .rst :: rest) :
    step s = .fault .resetWhileBusy := by
  simp [step, portStep, busyStep, hb, hp]

theorem step_busy_waits (hb : s.busy = true) (hp : ∀ rest, s.port ≠ .rst :: rest) : step s = .next s := by
  simp only [step, portStep, busyStep, hb, if_true]

theorem step_idle_waits (hb : s.busy = false) (hf : s.primitive = none) (hp : s.port = []) :
    step s = .next s := by
  simp [step, portStep, idleStep, hostStep, hb, hf, hp]

theorem step_reset {rest : List Input} (hb : s.busy = false) (hf : s.primitive = none)
    (hp : s.port = .rst :: rest) : step s = .next { State.reset with env := s.env, port := rest } := by
  simp [step, portStep, idleStep, hostStep, applyReset, hb, hf, hp]

theorem step_word {w : CommandWord} {rest : List Input} (hb : s.busy = false) (hf : s.primitive = none)
    (hp : s.port = .word w :: rest) : step s = runWord w { s with port := rest } := by
  simp [step, portStep, idleStep, hostStep, hb, hf, hp]

theorem step_primitive {f : FrameWord} (hb : s.busy = false) (hf : s.primitive = some f) :
    step s = runFrame f { s with primitive := none } := by
  simp [step, portStep, idleStep, hb, hf]

theorem runWord_ok {w : CommandWord} {i : Instr} (h : decodeCommand w = .ok i) : runWord w s = exec i s := by
  simp [runWord, decode, h]

theorem runWord_illegal {w : CommandWord} {e : DecodeError} (h : decodeCommand w = .error e) :
    runWord w s = .next (s.present Result.refusedWord) := by
  simp [runWord, decode, h]

theorem runFrame_ok {f : FrameWord} {i : Instr} (h : decodeFrame f = .ok i) : runFrame f s = exec i s := by
  simp [runFrame, decode, h]

theorem runFrame_dropped {f : FrameWord} {e : DecodeError} (h : decodeFrame f = .error e) :
    runFrame f s = .next s := by
  simp [runFrame, decode, h]
end

/-- Everything one step can do. -/
theorem step_cases (s : State) :
    (s.busy = true ∧ (∃ rest, s.port = .rst :: rest) ∧ step s = .fault .resetWhileBusy)
      ∨ (s.busy = true ∧ (∀ rest, s.port ≠ .rst :: rest) ∧ step s = .next s)
      ∨ (s.busy = false ∧ ∃ f, s.primitive = some f
        ∧ ((∃ i, decodeFrame f = .ok i ∧ step s = exec i { s with primitive := none })
          ∨ (∃ e, decodeFrame f = .error e ∧ step s = .next { s with primitive := none })))
      ∨ (s.busy = false ∧ s.primitive = none
        ∧ ((s.port = [] ∧ step s = .next s)
          ∨ (∃ rest, s.port = .rst :: rest ∧ step s = .next { State.reset with env := s.env, port := rest })
          ∨ (∃ w rest i, s.port = .word w :: rest ∧ decodeCommand w = .ok i ∧ step s = exec i { s with port := rest })
          ∨ (∃ w rest e, s.port = .word w :: rest ∧ decodeCommand w = .error e
            ∧ step s = .next (State.present { s with port := rest } Result.refusedWord)))) := by
  have hd (w : CommandWord) : (∃ i, decodeCommand w = .ok i) ∨ ∃ e, decodeCommand w = .error e := by
    cases decodeCommand w <;> simp
  have hf (f : FrameWord) : (∃ i, decodeFrame f = .ok i) ∨ ∃ e, decodeFrame f = .error e := by
    cases decodeFrame f <;> simp
  have port : s.port = [] ∨ (∃ rest, s.port = .rst :: rest) ∨ ∃ w rest, s.port = .word w :: rest := by
    rcases s.port with _ | ⟨_ | _, _⟩ <;> simp
  by_cases hb : s.busy = true
  · by_cases hr : ∃ rest, s.port = .rst :: rest
    · exact .inl ⟨hb, hr, step_busy_reset hb hr.choose_spec⟩
    · exact .inr (.inl ⟨hb, fun rest h => hr ⟨rest, h⟩, step_busy_waits hb fun rest h => hr ⟨rest, h⟩⟩)
  simp only [Bool.not_eq_true] at hb
  obtain hp | ⟨f, hp⟩ : s.primitive = none ∨ ∃ f, s.primitive = some f := by cases s.primitive <;> simp
  · refine .inr (.inr (.inr ⟨hb, hp, ?_⟩))
    obtain h | ⟨rest, h⟩ | ⟨w, rest, h⟩ := port
    · exact .inl ⟨h, step_idle_waits hb hp h⟩
    · exact .inr (.inl ⟨rest, h, step_reset hb hp h⟩)
    · obtain ⟨i, hi⟩ | ⟨e, he⟩ := hd w
      · exact .inr (.inr (.inl ⟨w, rest, i, h, hi, (step_word hb hp h).trans (runWord_ok hi)⟩))
      · exact .inr (.inr (.inr ⟨w, rest, e, h, he, (step_word hb hp h).trans (runWord_illegal he)⟩))
  · refine .inr (.inr (.inl ⟨hb, f, hp, ?_⟩))
    obtain ⟨i, hi⟩ | ⟨e, he⟩ := hf f
    · exact .inl ⟨i, hi, (step_primitive hb hp).trans (runFrame_ok hi)⟩
    · exact .inr ⟨e, he, (step_primitive hb hp).trans (runFrame_dropped he)⟩

end Sys2Proof.Machine
end

