-- ==== Sys2Proof/Tests/Slice0.lean ====
section
/-! SUPPORT. The model's own tests: words written out from the spec and what they decode to, one step of
each instruction against the vectors of spec 95_test_vectors.md, the well-formedness smoke test, and a
witness for the hypotheses of every statement. Expected values come from the spec, never from the model. -/

namespace Sys2Proof.Tests

open Sys2Proof.Machine

/-! ### Helpers -/

/-- A draw that answers a select call. -/
def selDraw (a : Except SelErr Unit) : Draw := { sel := some a, write := none, exchange := none }

/-- A draw that answers a write. -/
def writeDraw (a : Except BusErr Unit) : Draw := { sel := none, write := some a, exchange := none }

/-- A draw that answers an exchange. -/
def readDraw (a : Except BusErr (Byte × Byte)) : Draw := { sel := none, write := none, exchange := some a }

/-- A draw that answers nothing. -/
def silentDraw : Draw := { sel := none, write := none, exchange := none }

/-- The answers to one writing transaction. -/
def writeTx (r1 : Except SelErr Unit) (r2 : Except BusErr Unit) (r3 : Except SelErr Unit) : List Draw :=
  [selDraw r1, writeDraw r2, selDraw r3]

/-- The answers to one reading transaction. -/
def readTx (r1 : Except SelErr Unit) (r2 : Except BusErr (Byte × Byte)) (r3 : Except SelErr Unit) : List Draw :=
  [selDraw r1, readDraw r2, selDraw r3]

/-- `n` writing transactions that succeed. -/
def writesOk (n : Nat) : List Draw := (List.range n).flatMap fun _ => writeTx (.ok ()) (.ok ()) (.ok ())

/-- The bytes of `V12.2`: address `k` answers `[0, 0x10 + k]`. -/
def rxAt (k : Nat) : Byte × Byte := (0, BitVec.ofNat 8 (16 + k))

/-- `n` reading transactions that succeed, address `k` answering `rxAt k`. -/
def readsOk (n : Nat) : List Draw := (List.range n).flatMap fun k => readTx (.ok ()) (.ok (rxAt k)) (.ok ())

/-- The reset state before an environment that answers by a script. -/
def scripted (script : List Draw) : State := { State.reset with env := { script := script, calls := 0 } }

/-- The reset state with some field registers changed. -/
def mirrored (m : Mirror) : State := { State.reset with mirror := m }

/-- The reset state with a command word offered. -/
def offered (w : CommandWord) : State := offer w State.reset

/-- The reset state with the frame of a primitive placed. -/
def placed (f : FrameWord) : State := placePrimitive f State.reset

/-- A part of the next state of an outcome. -/
def read {α : Type} (f : State → α) (o : Host.Outcome State Fault Refusal) : Option α :=
  match o with
  | .next t => some (f t)
  | .fault _ => none
  | .refused _ => none

/-- The image left by one step that runs a command word from reset. -/
def imageAfter (w : CommandWord) (img : Mirror → Byte) : Option Byte := read (fun t => img t.mirror) (step (offered w))

/-- The byte an instruction presents. -/
def dataOf (o : Host.Outcome State Fault Refusal) : Option Byte := (read (fun t => t.result.bind Result.data) o).join

/-- The status an instruction presents. -/
def statusOf (o : Host.Outcome State Fault Refusal) : Option Status :=
  (read (fun t => t.result.map Result.status) o).join

/-- The calls an instruction made. -/
def traceOf (o : Host.Outcome State Fault Refusal) : Option (List TraceEntry) := read State.trace o

/-- The instruction a command word decodes to. -/
def dec (w : CommandWord) : Option Instr := decodeTableWord 24 w.toNat

/-- The instruction a frame decodes to. -/
def decF (w : FrameWord) : Option Instr := decodeTableWord 16 w.toNat

/-! ### Well-formedness: an ill-formed term for each check -/

theorem test_illFormed_setTxPulses_above : ¬ WellFormed (.setTxPulses 32768) := by decide
theorem test_illFormed_setTxPulses_below : ¬ WellFormed (.setTxPulses (-32769)) := by decide
theorem test_wellFormed_setTxPulses_bounds : WellFormed (.setTxPulses 32767) ∧ WellFormed (.setTxPulses (-32768)) := by decide

theorem test_illFormed_setTxPulseShiftPosition_above : ¬ WellFormed (.setTxPulseShiftPosition 32768) := by decide
theorem test_illFormed_setTxPulseShiftPosition_below : ¬ WellFormed (.setTxPulseShiftPosition (-32769)) := by decide
theorem test_wellFormed_setTxPulseShiftPosition_bounds : WellFormed (.setTxPulseShiftPosition 32767) ∧ WellFormed (.setTxPulseShiftPosition (-32768)) := by decide

theorem test_illFormed_setTofValue_above : ¬ WellFormed (.setTofValue 32768) := by decide
theorem test_illFormed_setTofValue_below : ¬ WellFormed (.setTofValue (-32769)) := by decide
theorem test_wellFormed_setTofValue_bounds : WellFormed (.setTofValue 32767) ∧ WellFormed (.setTofValue (-32768)) := by decide

theorem test_illFormed_frameW :
    [(RegAddr.config1, 0x40), (.config2, 0x03), (.config3, 0x80), (.config4, 0x80), (.errFlag, 0x04), (.timeOut, 0x80),
      (.clockRate, 0x08)].all (fun p : RegAddr × Byte => !(Instr.frameW p.1 p.2).wellFormed) = true := by decide
theorem test_wellFormed_frameW_bounds :
    [(RegAddr.config0, 0xFF), (.config1, 0x3F), (.config2, 0xFE), (.config3, 0x7F), (.config4, 0x7F), (.tof1, 0xFF), (.tof0, 0xFF),
      (.errFlag, 0x03), (.timeOut, 0x7F), (.clockRate, 0x07)].all
        (fun p : RegAddr × Byte => (Instr.frameW p.1 p.2).wellFormed) = true := by decide

/-! ### Setters: the word (spec 95_test_vectors.md V1, V2) decodes to the setter, and its step leaves the image -/

/-- V2.8. -/
theorem test_decode_setTxFrequencyDivider : dec 0x000007 = some (.setTxFrequencyDivider .divideBy256) := by decide
theorem test_step_setTxFrequencyDivider : imageAfter 0x000007 packConfig0 = some 0xE5 := by decide

/-- V1.2. -/
theorem test_decode_setTxPulses_low : dec 0x01FFFF = some (.setTxPulses (-1)) := by decide
theorem test_step_setTxPulses_low : read (fun t => t.mirror.txPulses) (step (offered 0x01FFFF)) = some 0 := by decide

/-- V1.9. -/
theorem test_decode_setTxPulses_high : dec 0x010021 = some (.setTxPulses 33) := by decide
theorem test_step_setTxPulses_high : read (fun t => t.mirror.txPulses) (step (offered 0x010021)) = some 31 := by decide

/-- V2.16. -/
theorem test_decode_setMeasurementCycles : dec 0x020007 = some (.setMeasurementCycles .cycles128) := by decide
theorem test_step_setMeasurementCycles : imageAfter 0x020007 packConfig1 = some 0x38 := by decide

/-- V2.24. -/
theorem test_decode_setReceiveEvents : dec 0x030007 = some (.setReceiveEvents .events7) := by decide
theorem test_step_setReceiveEvents : imageAfter 0x030007 packConfig1 = some 0x07 := by decide

/-- V2.26. -/
theorem test_decode_setVoltageReference : dec 0x040001 = some (.setVoltageReference .external) := by decide
theorem test_step_setVoltageReference : imageAfter 0x040001 packConfig2 = some 0x80 := by decide

/-- V2.28. -/
theorem test_decode_setMeasurementMode : dec 0x050001 = some (.setMeasurementMode .temperature) := by decide
theorem test_step_setMeasurementMode : imageAfter 0x050001 packConfig2 = some 0x40 := by decide

/-- V2.30. -/
theorem test_decode_setDamping : dec 0x060001 = some (.setDamping .enable) := by decide
theorem test_step_setDamping : imageAfter 0x060001 packConfig2 = some 0x20 := by decide

/-- V2.32. -/
theorem test_decode_setChannelSwap : dec 0x070001 = some (.setChannelSwap .enable) := by decide
theorem test_step_setChannelSwap : imageAfter 0x070001 packConfig2 = some 0x10 := by decide

/-- V2.34. -/
theorem test_decode_setExternalChannelSelect : dec 0x080001 = some (.setExternalChannelSelect .enable) := by decide
theorem test_step_setExternalChannelSelect : imageAfter 0x080001 packConfig2 = some 0x08 := by decide

/-- V2.36. -/
theorem test_decode_setChannelSelect : dec 0x090001 = some (.setChannelSelect .channel2) := by decide
theorem test_step_setChannelSelect : imageAfter 0x090001 packConfig2 = some 0x04 := by decide

/-- V2.39. -/
theorem test_decode_setTofMeasMode : dec 0x0A0002 = some (.setTofMeasMode .mode2) := by decide
theorem test_step_setTofMeasMode : imageAfter 0x0A0002 packConfig2 = some 0x02 := by decide

/-- V2.41. -/
theorem test_decode_setTempMode : dec 0x0B0001 = some (.setTempMode .refRtd1) := by decide
theorem test_step_setTempMode : imageAfter 0x0B0001 packConfig3 = some 0x43 := by decide

/-- V2.43. -/
theorem test_decode_setTempRtdSelect : dec 0x0C0001 = some (.setTempRtdSelect .pt500) := by decide
theorem test_step_setTempRtdSelect : imageAfter 0x0C0001 packConfig3 = some 0x23 := by decide

/-- V2.45. -/
theorem test_decode_setTempClockDivider : dec 0x0D0001 = some (.setTempClockDivider .useTxFrequencyDivider) := by decide
theorem test_step_setTempClockDivider : imageAfter 0x0D0001 packConfig3 = some 0x13 := by decide

/-- V2.47. -/
theorem test_decode_setPowerBlanking : dec 0x0E0001 = some (.setPowerBlanking .enable) := by decide
theorem test_step_setPowerBlanking : imageAfter 0x0E0001 packConfig3 = some 0x0B := by decide

/-- V2.55. -/
theorem test_decode_setEchoQualificationThreshold : dec 0x0F0007 = some (.setEchoQualificationThreshold .mv1500) := by decide
theorem test_step_setEchoQualificationThreshold : imageAfter 0x0F0007 packConfig3 = some 0x07 := by decide

/-- V2.57. -/
theorem test_decode_setReceiveMode : dec 0x100001 = some (.setReceiveMode .multiEcho) := by decide
theorem test_step_setReceiveMode : imageAfter 0x100001 packConfig4 = some 0x5F := by decide

/-- V2.59. -/
theorem test_decode_setTriggerEdgePolarity : dec 0x110001 = some (.setTriggerEdgePolarity .fallingEdge) := by decide
theorem test_step_setTriggerEdgePolarity : imageAfter 0x110001 packConfig4 = some 0x3F := by decide

/-- V1.17. -/
theorem test_decode_setTxPulseShiftPosition_low : dec 0x12FFFF = some (.setTxPulseShiftPosition (-1)) := by decide
theorem test_step_setTxPulseShiftPosition_low : read (fun t => t.mirror.txPulseShiftPosition) (step (offered 0x12FFFF)) = some 0 := by decide

/-- V1.22. -/
theorem test_decode_setTxPulseShiftPosition_high : dec 0x1203E8 = some (.setTxPulseShiftPosition 1000) := by decide
theorem test_step_setTxPulseShiftPosition_high : read (fun t => t.mirror.txPulseShiftPosition) (step (offered 0x1203E8)) = some 31 := by decide

/-- V2.67. -/
theorem test_decode_setPgaGain : dec 0x130007 = some (.setPgaGain .db21) := by decide
theorem test_step_setPgaGain : imageAfter 0x130007 packTof1 = some 0xE0 := by decide

/-- V2.69. -/
theorem test_decode_setPgaControl : dec 0x140001 = some (.setPgaControl .bypassed) := by decide
theorem test_step_setPgaControl : imageAfter 0x140001 packTof1 = some 0x10 := by decide

/-- V2.71. -/
theorem test_decode_setLnaControl : dec 0x150001 = some (.setLnaControl .bypassed) := by decide
theorem test_step_setLnaControl : imageAfter 0x150001 packTof1 = some 0x08 := by decide

/-- V2.73. -/
theorem test_decode_setLnaFeedback : dec 0x160001 = some (.setLnaFeedback .resistive) := by decide
theorem test_step_setLnaFeedback : imageAfter 0x160001 packTof1 = some 0x04 := by decide

/-- V1.24. -/
theorem test_decode_setTofValue_low : dec 0x17FFFB = some (.setTofValue (-5)) := by decide
theorem test_step_setTofValue_low : read (fun t => t.mirror.tofValue) (step (offered 0x17FFFB)) = some 0 := by decide

/-- V1.34. -/
theorem test_decode_setTofValue_high : dec 0x170400 = some (.setTofValue 1024) := by decide
theorem test_step_setTofValue_high : read (fun t => t.mirror.tofValue) (step (offered 0x170400)) = some 1023 := by decide

/-- V2.75. -/
theorem test_decode_setForceShortTof : dec 0x180001 = some (.setForceShortTof .enable) := by decide
theorem test_step_setForceShortTof : imageAfter 0x180001 packTimeOut = some 0x59 := by decide

/-- V2.83. -/
theorem test_decode_setShortTofBlankPeriod : dec 0x190007 = some (.setShortTofBlankPeriod .t0Times1024) := by decide
theorem test_step_setShortTofBlankPeriod : imageAfter 0x190007 packTimeOut = some 0x39 := by decide

/-- V2.85. -/
theorem test_decode_setEchoTimeout : dec 0x1A0001 = some (.setEchoTimeout .disable) := by decide
theorem test_step_setEchoTimeout : imageAfter 0x1A0001 packTimeOut = some 0x1D := by decide

/-- V2.89. -/
theorem test_decode_setTofTimeoutControl : dec 0x1B0003 = some (.setTofTimeoutControl .t0Times1024) := by decide
theorem test_step_setTofTimeoutControl : imageAfter 0x1B0003 packTimeOut = some 0x1B := by decide

/-- V2.91. -/
theorem test_decode_setClockInDivider : dec 0x1C0001 = some (.setClockInDivider .divideBy2) := by decide
theorem test_step_setClockInDivider : imageAfter 0x1C0001 packClockRate = some 0x04 := by decide

/-- V2.95. -/
theorem test_decode_setAutoZeroPeriod : dec 0x1D0003 = some (.setAutoZeroPeriod .t0Times512) := by decide
theorem test_step_setAutoZeroPeriod : imageAfter 0x1D0003 packClockRate = some 0x03 := by decide

/-! ### Byte accessors (spec 95_test_vectors.md V4, states reset and the fields of mixed) -/

/-- V4.1. -/
theorem test_decode_getbConfig0 : dec 0x200000 = some .getbConfig0 := by decide
theorem test_step_getbConfig0 : dataOf (step (offered 0x200000)) = some 0x45 := by decide
theorem test_exec_getbConfig0 :
    dataOf (exec .getbConfig0 (mirrored { resetFields with
      txFrequencyDivider := .divideBy32, txPulses := 10 })) = some 0x8A := by decide

/-- V4.2. -/
theorem test_decode_getbConfig1 : dec 0x210000 = some .getbConfig1 := by decide
theorem test_step_getbConfig1 : dataOf (step (offered 0x210000)) = some 0x00 := by decide
theorem test_exec_getbConfig1 :
    dataOf (exec .getbConfig1 (mirrored { resetFields with
      measurementCycles := .cycles8, receiveEvents := .events5 })) = some 0x1D := by decide

/-- V4.3. -/
theorem test_decode_getbConfig2 : dec 0x220000 = some .getbConfig2 := by decide
theorem test_step_getbConfig2 : dataOf (step (offered 0x220000)) = some 0x00 := by decide
theorem test_exec_getbConfig2 :
    dataOf (exec .getbConfig2 (mirrored { resetFields with
      voltageReference := .external, damping := .enable, externalChannelSelect := .enable, channelSelect := .channel2, tofMeasMode := .mode1 })) = some 0xAD := by decide

/-- V4.4. -/
theorem test_decode_getbConfig3 : dec 0x230000 = some .getbConfig3 := by decide
theorem test_step_getbConfig3 : dataOf (step (offered 0x230000)) = some 0x03 := by decide
theorem test_exec_getbConfig3 :
    dataOf (exec .getbConfig3 (mirrored { resetFields with
      tempMode := .refRtd1, tempClockDivider := .useTxFrequencyDivider, powerBlanking := .enable, echoQualificationThreshold := .mv410 })) = some 0x5D := by decide

/-- V4.5. -/
theorem test_decode_getbConfig4 : dec 0x240000 = some .getbConfig4 := by decide
theorem test_step_getbConfig4 : dataOf (step (offered 0x240000)) = some 0x1F := by decide
theorem test_exec_getbConfig4 :
    dataOf (exec .getbConfig4 (mirrored { resetFields with
      receiveMode := .multiEcho, txPulseShiftPosition := 7 })) = some 0x47 := by decide

/-- V4.6. -/
theorem test_decode_getbTof1 : dec 0x250000 = some .getbTof1 := by decide
theorem test_step_getbTof1 : dataOf (step (offered 0x250000)) = some 0x00 := by decide
theorem test_exec_getbTof1 :
    dataOf (exec .getbTof1 (mirrored { resetFields with
      pgaGain := .db15, lnaControl := .bypassed, lnaFeedback := .resistive, tofValue := 683 })) = some 0xAE := by decide

/-- V4.7. -/
theorem test_decode_getbTof0 : dec 0x260000 = some .getbTof0 := by decide
theorem test_step_getbTof0 : dataOf (step (offered 0x260000)) = some 0x00 := by decide
theorem test_exec_getbTof0 :
    dataOf (exec .getbTof0 (mirrored { resetFields with
      tofValue := 683 })) = some 0xAB := by decide

/-- V4.8. -/
theorem test_decode_getbTimeOut : dec 0x280000 = some .getbTimeOut := by decide
theorem test_step_getbTimeOut : dataOf (step (offered 0x280000)) = some 0x19 := by decide
theorem test_exec_getbTimeOut :
    dataOf (exec .getbTimeOut (mirrored { resetFields with
      forceShortTof := .enable, shortTofBlankPeriod := .t0Times256, echoTimeout := .disable, tofTimeoutControl := .t0Times1024 })) = some 0x6F := by decide

/-- V4.9. -/
theorem test_decode_getbClockRate : dec 0x290000 = some .getbClockRate := by decide
theorem test_step_getbClockRate : dataOf (step (offered 0x290000)) = some 0x00 := by decide
theorem test_exec_getbClockRate :
    dataOf (exec .getbClockRate (mirrored { resetFields with
      clockInDivider := .divideBy2, autoZeroPeriod := .t0Times256 })) = some 0x06 := by decide

/-! ### Bus commands (spec 95_test_vectors.md V7, V10, V12) -/

theorem test_decode_rdreg : dec 0x420000 = some (.rdreg .config2) ∧ dec 0x470000 = some (.rdreg .errFlag) := by decide
/-- V7.2. -/
theorem test_exec_rdreg_ok :
    dataOf (exec (.rdreg .config2) (scripted (readTx (.ok ()) (.ok (0, 0x92)) (.ok ())))) = some 0x92 := by decide
/-- V7.5. -/
theorem test_exec_rdreg_double_failure :
    read (fun t => (t.result, t.sel, t.trace)) (exec (.rdreg .config2)
        (scripted (readTx (.ok ()) (.error ⟨2⟩) (.error ⟨3⟩))))
      = some (some (selectRecord ⟨3⟩), .unknown,
          [.selAssert (.ok ()), .exchange (0x02, 0xFF) (.error ⟨2⟩), .selDeassert (.error ⟨3⟩)]) := by decide

theorem test_decode_wrerr : dec 0x600001 = some (.wrerr .resetFlagsAndPin)
    ∧ dec 0x600003 = some (.wrerr .resetErrorStateMachineAndMeasurement) := by decide
/-- V7.7. -/
theorem test_exec_wrerr_ok :
    traceOf (exec (.wrerr .resetStateMachine) (scripted (writesOk 1)))
      = some [.selAssert (.ok ()), .write (0x47, 0x02) (.ok ()), .selDeassert (.ok ())] := by decide
/-- V7.6. -/
theorem test_exec_wrerr_no_deassert :
    read (fun t => (t.result, t.sel, t.trace)) (exec (.wrerr .resetStateMachine) (scripted [selDraw (.error ⟨1⟩)]))
      = some (some (selectRecord ⟨1⟩), .unknown, [.selAssert (.error ⟨1⟩)]) := by decide

theorem test_decode_rderr : dec 0xC00000 = some .rderr := by decide
/-- V6.13. -/
theorem test_exec_rderr :
    read (fun t => t.result.bind Result.flags) (exec .rderr (scripted (readTx (.ok ()) (.ok (0, 0xFA)) (.ok ()))))
      = some (some { signalWeak := false, noSignal := true, signalHigh := false }) := by decide
/-- V7.3 for this command: a transfer that failed alone. -/
theorem test_exec_rderr_bus_error :
    read (fun t => (t.result, t.sel)) (exec .rderr (scripted (readTx (.ok ()) (.error ⟨2⟩) (.ok ()))))
      = some (some (busRecord ⟨2⟩), .inactive) := by decide

theorem test_decode_wrall : dec 0x800000 = some .wrall := by decide
/-- Program P1, with the images of reset. -/
theorem test_exec_wrall :
    (traceOf (exec .wrall (scripted (writesOk 9)))).map (fun t => t.filterMap fun e => match e with
        | .write tx _ => some tx
        | .exchange _ _ => none
        | .selAssert _ => none
        | .selDeassert _ => none)
      = some [(0x40, 0x45), (0x41, 0x00), (0x42, 0x00), (0x43, 0x03), (0x44, 0x1F), (0x45, 0x00), (0x46, 0x00),
          (0x48, 0x19), (0x49, 0x00)] := by decide
/-- Program P4, step 2: the fourth write fails. -/
theorem test_exec_wrall_stops :
    read (fun t => (t.trace.length, t.seq, t.result, t.sel))
        (exec .wrall (scripted (writesOk 3 ++ writeTx (.ok ()) (.error ⟨2⟩) (.ok ()))))
      = some (12, 3, some (busRecord ⟨2⟩), .inactive) := by decide

theorem test_decode_rdall : dec 0xA00000 = some .rdall := by decide
/-- V12.2. -/
theorem test_exec_rdall :
    read (fun t => (t.result.bind Result.buf).map Vector.toList) (exec .rdall (scripted (readsOk 10)))
      = some (some [0x10, 0x11, 0x12, 0x13, 0x14, 0x15, 0x16, 0x17, 0x18, 0x19]) := by decide
/-- Program P5, step 1: the second deassert fails. -/
theorem test_exec_rdall_stops :
    read (fun t => (t.trace.length, t.seq, t.result, t.sel))
        (exec .rdall (scripted (readsOk 1 ++ readTx (.ok ()) (.ok (0, 0x11)) (.error ⟨3⟩))))
      = some (6, 1, some (selectRecord ⟨3⟩), .unknown) := by decide

/-- The worked frames of spec 30_encoding.md R66. -/
theorem test_decode_frameW : decF 0x4302 = some (.frameW .config3 0x02) ∧ decF 0x4907 = some (.frameW .clockRate 0x07) := by
  decide
theorem test_exec_frameW :
    traceOf (exec (.frameW .config3 0x02) (scripted (writesOk 1)))
      = some [.selAssert (.ok ()), .write (0x43, 0x02) (.ok ()), .selDeassert (.ok ())] := by decide
theorem test_decode_frameR : decF 0x07FF = some (.frameR .errFlag) ∧ decF 0x00FF = some (.frameR .config0) := by decide
theorem test_exec_frameR :
    traceOf (exec (.frameR .errFlag) (scripted (readTx (.ok ()) (.ok (0, 0x05)) (.ok ()))))
      = some [.selAssert (.ok ()), .exchange (0x07, 0xFF) (.ok (0, 0x05)), .selDeassert (.ok ())] := by decide

/-! ### Words that spell nothing (spec 95_test_vectors.md V3; frames outside spec R66) -/

theorem test_refused_words :
    [0xE00000, 0xFFFFFF, 0x1E0000, 0x1F0000, 0x000008, 0x0A0003, 0x040002, 0x1B0004,
      0x0F0100, 0x270000, 0x2A0000, 0x200001, 0x4A0000, 0x5F0000, 0x400100, 0x600004,
      0x610000, 0x800001, 0x810000, 0xA0FFFF, 0xC10000].all (fun w => (dec w).isNone) = true := by decide
theorem test_refused_frames :
    [0x0AFF, 0x4A00, 0xC700, 0x07FE, 0x87FF, 0x47FF, 0x4704, 0x41C0, 0x4203, 0x49FF].all (fun w => (decF w).isNone) = true := by decide
/-- Program P6, step 2. -/
theorem test_step_refused_word :
    read (fun t => (t.result, t.mirror, t.trace, t.busy)) (step (offered 0x0A0003))
      = some (some illegalRecord, resetFields, [], false) := by decide

/-! ### The step -/

/-- The worked example S2: the threshold Mv75 from reset. -/
theorem test_withFetchWord :
    read (fun t => packConfig3 t.mirror) (step (State.reset.withFetchWord 24 0x0F0002)) = some 0x02 := by decide
theorem test_withFetchWord_frame :
    statusOf (step ((scripted (writesOk 1)).withFetchWord 16 0x4302)) = some .ok := by decide
theorem test_decode_of_encode_bounds :
    decode (encode (.setTofValue (-32768))) = .ok (.setTofValue (-32768))
      ∧ decode (encode (.setTofValue 32767)) = .ok (.setTofValue 32767) := ⟨rfl, rfl⟩

/-! ### Witnesses: the hypotheses of each statement are met -/

theorem witness_DecodeOfEncodeIsIdentity : WellFormed (.setTofValue (-32768)) ∧ WellFormed (.frameW .clockRate 0x07) := by
  decide

theorem witness_EncodeOfDecodeIsIdentity :
    decode (.command 0x178000) = .ok (.setTofValue (-32768)) ∧ decode (.frame 0x09FF) = .ok (.frameR .clockRate) :=
  ⟨rfl, rfl⟩

/-- One word for each line of the list of R86, at a boundary where the line has one. -/
theorem witness_IllegalWords_each_line :
    IllegalWord 0xE00000 ∧ IllegalWord 0x1E0000 ∧ IllegalWord 0x000008 ∧ IllegalWord 0x0A0003 ∧ IllegalWord 0x1B0004
      ∧ IllegalWord 0x040002 ∧ IllegalWord 0x270000 ∧ IllegalWord 0x2A0000 ∧ IllegalWord 0x4A0000
      ∧ IllegalWord 0x610000 ∧ IllegalWord 0x600004 ∧ IllegalWord 0x810000 ∧ IllegalWord 0xA00001
      ∧ IllegalWord 0x200001 ∧ IllegalWord 0x400100 := by
  simp [IllegalWord]

/-- The neighbours are legal. -/
theorem witness_IllegalWords_not_legal :
    ¬ IllegalWord 0xC00000 ∧ ¬ IllegalWord 0x1D0003 ∧ ¬ IllegalWord 0x000007 ∧ ¬ IllegalWord 0x0A0002
      ∧ ¬ IllegalWord 0x1B0003 ∧ ¬ IllegalWord 0x290000 ∧ ¬ IllegalWord 0x490000 ∧ ¬ IllegalWord 0x600003 := by
  simp [IllegalWord]

theorem witness_IllegalWordsAreTheListAndChangeNothing :
    (offered 0xE00000).busy = false ∧ (offered 0xE00000).primitive = none ∧ (offered 0xE00000).port = .word 0xE00000 :: [] ∧ IllegalWord 0xE00000 :=
  ⟨rfl, rfl, rfl, by simp [IllegalWord]⟩

theorem witness_NoCommandWordSpellsAPrimitive : decodeCommand 0xC00000 = .ok .rderr := rfl

theorem witness_StepRunsTheDecodedInstruction :
    ((offered 0x000002).busy = false ∧ (offered 0x000002).primitive = none ∧ (offered 0x000002).port = .word 0x000002 :: []
        ∧ decode (.command 0x000002) = .ok (.setTxFrequencyDivider .divideBy8))
      ∧ ((placed 0x4703).busy = false ∧ (placed 0x4703).primitive = some 0x4703
        ∧ decode (.frame 0x4703) = .ok (.frameW .errFlag 3)) := ⟨⟨rfl, rfl, rfl, rfl⟩, rfl, rfl, rfl⟩

/-- A unit inside a command whose assert is never answered. -/
def waitingUnit (port : List Input) : State := { State.reset with busy := true, phase := .assert, port := port }

theorem witness_UnitWaitsWithoutInputOrAnswer :
    (State.reset.busy = false ∧ State.reset.primitive = none ∧ State.reset.port = [])
      ∧ ((waitingUnit []).busy = true ∧ (waitingUnit []).port = [])
      ∧ ((waitingUnit [.word 0x800000]).busy = true
        ∧ (waitingUnit [.word 0x800000]).port = .word 0x800000 :: []) :=
  ⟨⟨rfl, rfl, rfl⟩, ⟨rfl, rfl⟩, rfl, rfl⟩

theorem witness_ResetInputGivesResetState :
    (({ State.reset with port := [.rst] } : State).busy = false ∧ ({ State.reset with port := [.rst] } : State).primitive = none
        ∧ ({ State.reset with port := [.rst] } : State).port = .rst :: [])
      ∧ ((waitingUnit [.rst]).busy = true ∧ (waitingUnit [.rst]).port = .rst :: []) :=
  ⟨⟨rfl, rfl, rfl⟩, rfl, rfl⟩

theorem witness_OnlyFaultIsResetWhileBusy :
    step State.reset = .next State.reset ∧ step (waitingUnit [.rst]) = .fault .resetWhileBusy := ⟨rfl, rfl⟩

theorem witness_SetterWritesOnlyItsField :
    setterTarget (.setTofValue 2000) = some (.tofValue, 1023) ∧ FieldId.txPulses ≠ .tofValue
      ∧ imageOf .config0 = some packConfig0 ∧ ∀ p ∈ fieldMap, p.field = .tofValue → p.reg ≠ .config0 :=
  ⟨rfl, by decide, rfl, by decide⟩

theorem witness_SettersCommuteAndLaterWins :
    setterTarget (.setTxPulses 1) = some (.txPulses, 1) ∧ setterTarget (.setDamping .enable) = some (.damping, 1)
      ∧ FieldId.txPulses ≠ .damping ∧ setterTarget (.setTxPulses 9) = some (.txPulses, 9) :=
  ⟨rfl, rfl, by decide, rfl⟩

/-- The bounds of the two ranges, on both sides. -/
theorem witness_ClampedOperandsSaturate :
    ((-1 : Int) < 0 ∧ (31 : Int) < 32 ∧ (1023 : Int) < 1024) ∧ ((0 : Int) ≤ 0 ∧ (0 : Int) ≤ 31)
      ∧ ((0 : Int) ≤ 31 ∧ (31 : Int) ≤ 31) ∧ ((0 : Int) ≤ 1023 ∧ (1023 : Int) ≤ 1023) := by decide

theorem witness_PackFunctionsFollowTheFieldMap : imageOf .clockRate = some packClockRate := rfl

theorem witness_AnyDisjointFieldMapIsLossless :
    (placementsOf .config2).Pairwise (fun p q => p.mask &&& q.mask = 0)
      ∧ (⟨.tofMeasMode, .config2, 0, 2, 0⟩ : Placement) ∈ placementsOf .config2 := by decide

theorem witness_ImagesLoseNothing :
    (⟨.txFrequencyDivider, .config0, 5, 3, 0⟩ : Placement) ∈ fieldMap ∧ FieldId.txFrequencyDivider ≠ .tofValue
      ∧ imageOf .config0 = some packConfig0 ∧ SameImages resetFields resetFields :=
  ⟨by decide, by decide, rfl, rfl, rfl, rfl, rfl, rfl, rfl, rfl, rfl, rfl⟩

theorem witness_TimeOfFlightRoundTrip :
    ({ resetFields with tofValue := 1023 } : Mirror).tofValue.toNat = 1023 ∧ resetFields.tofValue.toNat = 0 := by decide

/-- A setter of another register and a whole read-all stand between the two reads. -/
theorem witness_AccessorsArePureBetweenSetters :
    getterTarget .getbConfig0 = some .config0
      ∧ (∀ p ∈ fieldMap, p.field = .damping → p.reg ≠ .config0)
      ∧ (read (fun t => t.result) (exec .getbConfig0 (scripted (readsOk 10)))).isSome = true
      ∧ (read (fun t => t.result) (execAll [.setDamping .enable, .rdall] (scripted (readsOk 10)))).isSome = true := by
  refine ⟨rfl, ?_, ?_, ?_⟩ <;> decide

theorem witness_ContributionsFitTheirFields :
    (⟨.txFrequencyDivider, .config0, 5, 3, 0⟩ : Placement) ∈ fieldMap ∧ (⟨.txPulses, .config0, 0, 5, 0⟩ : Placement) ∈ fieldMap
      ∧ (⟨.txFrequencyDivider, .config0, 5, 3, 0⟩ : Placement) ≠ ⟨.txPulses, .config0, 0, 5, 0⟩ := by decide

theorem witness_ReservedBitsAndUnlistedCode : imageOf .config1 = some packConfig1 := rfl

theorem witness_StatusUnpackAndItsOnlyUser :
    read (fun t => (t.busy, (t.result.bind Result.flags).isSome))
        (exec .rderr (scripted (readTx (.ok ()) (.ok (0, 0x07)) (.ok ())))) = some (false, true) := by decide

/-- Every row of the table of R170 with an answered assert, for a reading command. -/
theorem witness_ReadAnswers_each_row :
    ReadAnswers (scripted (readTx (.ok ()) (.ok (0, 0x92)) (.ok ()))) 0 (.ok ()) (.ok (0, 0x92)) (.ok ())
      ∧ ReadAnswers (scripted (readTx (.ok ()) (.error ⟨2⟩) (.ok ()))) 0 (.ok ()) (.error ⟨2⟩) (.ok ())
      ∧ ReadAnswers (scripted (readTx (.ok ()) (.ok (0, 0x92)) (.error ⟨3⟩))) 0 (.ok ()) (.ok (0, 0x92)) (.error ⟨3⟩)
      ∧ ReadAnswers (scripted (readTx (.ok ()) (.error ⟨2⟩) (.error ⟨3⟩))) 0 (.ok ()) (.error ⟨2⟩) (.error ⟨3⟩) :=
  ⟨⟨rfl, rfl, rfl⟩, ⟨rfl, rfl, rfl⟩, ⟨rfl, rfl, rfl⟩, rfl, rfl, rfl⟩

/-- The same for a writing command. -/
theorem witness_WriteAnswers_each_row :
    WriteAnswers (scripted (writeTx (.ok ()) (.ok ()) (.ok ()))) 0 (.ok ()) (.ok ()) (.ok ())
      ∧ WriteAnswers (scripted (writeTx (.ok ()) (.error ⟨2⟩) (.ok ()))) 0 (.ok ()) (.error ⟨2⟩) (.ok ())
      ∧ WriteAnswers (scripted (writeTx (.ok ()) (.ok ()) (.error ⟨3⟩))) 0 (.ok ()) (.ok ()) (.error ⟨3⟩)
      ∧ WriteAnswers (scripted (writeTx (.ok ()) (.error ⟨2⟩) (.error ⟨3⟩))) 0 (.ok ()) (.error ⟨2⟩) (.error ⟨3⟩) :=
  ⟨⟨rfl, rfl, rfl⟩, ⟨rfl, rfl, rfl⟩, ⟨rfl, rfl, rfl⟩, rfl, rfl, rfl⟩

theorem witness_RdregFollowsTheTransactionTable :
    ReadAnswers (scripted (readTx (.ok ()) (.error ⟨2⟩) (.error ⟨3⟩))) 0 (.ok ()) (.error ⟨2⟩) (.error ⟨3⟩) :=
  witness_ReadAnswers_each_row.2.2.2

theorem witness_RderrFollowsTheTransactionTable :
    ReadAnswers (scripted (readTx (.ok ()) (.ok (0, 0x92)) (.ok ()))) 0 (.ok ()) (.ok (0, 0x92)) (.ok ()) :=
  witness_ReadAnswers_each_row.1

theorem witness_FrameRFollowsTheTransactionTable :
    ReadAnswers (scripted (readTx (.ok ()) (.error ⟨2⟩) (.ok ()))) 0 (.ok ()) (.error ⟨2⟩) (.ok ()) :=
  witness_ReadAnswers_each_row.2.1

theorem witness_WrerrFollowsTheTransactionTable :
    WriteAnswers (scripted (writeTx (.ok ()) (.error ⟨2⟩) (.error ⟨3⟩))) 0 (.ok ()) (.error ⟨2⟩) (.error ⟨3⟩) :=
  witness_WriteAnswers_each_row.2.2.2

theorem witness_FrameWFollowsTheTransactionTable :
    WriteAnswers (scripted (writeTx (.ok ()) (.ok ()) (.ok ()))) 0 (.ok ()) (.ok ()) (.ok ()) :=
  witness_WriteAnswers_each_row.1

theorem witness_FailedAssertEndsTheCommand :
    ((scripted [selDraw (.error ⟨1⟩)]).env.drawAt 0).sel = some (.error ⟨1⟩) := rfl

/-- Its three parts: a failed assert, and for each kind of command a failed deassert and a transfer that failed alone. -/
theorem witness_ErrorPriorityInOneTransaction :
    ((scripted [selDraw (.error ⟨1⟩)]).env.drawAt 0).sel = some (.error ⟨1⟩)
      ∧ ReadAnswers (scripted (readTx (.ok ()) (.error ⟨2⟩) (.error ⟨3⟩))) 0 (.ok ()) (.error ⟨2⟩) (.error ⟨3⟩)
      ∧ ReadAnswers (scripted (readTx (.ok ()) (.error ⟨2⟩) (.ok ()))) 0 (.ok ()) (.error ⟨2⟩) (.ok ())
      ∧ WriteAnswers (scripted (writeTx (.ok ()) (.error ⟨2⟩) (.error ⟨3⟩))) 0 (.ok ()) (.error ⟨2⟩) (.error ⟨3⟩)
      ∧ WriteAnswers (scripted (writeTx (.ok ()) (.error ⟨2⟩) (.ok ()))) 0 (.ok ()) (.error ⟨2⟩) (.ok ()) :=
  ⟨rfl, witness_ReadAnswers_each_row.2.2.2, witness_ReadAnswers_each_row.2.1, witness_WriteAnswers_each_row.2.2.2,
    witness_WriteAnswers_each_row.2.1⟩

/-- The environment falls silent at the assert, at the transfer, and at the deassert. -/
theorem witness_SilentEnvironmentLeavesUnitBusy :
    ((scripted [silentDraw]).env.drawAt 0).sel = none
      ∧ (((scripted [selDraw (.ok ()), silentDraw]).env.drawAt 0).sel = some (.ok ())
        ∧ ((scripted [selDraw (.ok ()), silentDraw]).env.drawAt 1).exchange = none
        ∧ ((scripted [selDraw (.ok ()), silentDraw]).env.drawAt 1).write = none)
      ∧ (((scripted [selDraw (.ok ()), readDraw (.error ⟨2⟩), silentDraw]).env.drawAt 0).sel = some (.ok ())
        ∧ ((scripted [selDraw (.ok ()), readDraw (.error ⟨2⟩), silentDraw]).env.drawAt 2).sel = none
        ∧ ((scripted [selDraw (.ok ()), readDraw (.error ⟨2⟩), silentDraw]).env.drawAt 1).exchange = some (.error ⟨2⟩))
      ∧ (((scripted [selDraw (.ok ()), writeDraw (.ok ()), silentDraw]).env.drawAt 0).sel = some (.ok ())
        ∧ ((scripted [selDraw (.ok ()), writeDraw (.ok ()), silentDraw]).env.drawAt 2).sel = none
        ∧ ((scripted [selDraw (.ok ()), writeDraw (.ok ()), silentDraw]).env.drawAt 1).write = some (.ok ())) :=
  ⟨rfl, ⟨rfl, rfl, rfl⟩, ⟨rfl, rfl, rfl⟩, rfl, rfl, rfl⟩

/-- A scripted answer is the environment's answer. -/
theorem drawAt_scripted {l rest : List Draw} {k : Nat} {d : Draw} (h : l[k]? = some d) :
    (scripted (l ++ rest)).env.drawAt k = d := by
  have hk : k < l.length := (List.getElem?_eq_some_iff.1 h).1
  simp only [scripted, Env.drawAt, Nat.zero_add, List.getElem?_append_left hk, h, Option.getD_some]

theorem writesOk_succeed (n : Nat) (hn : n ≤ 9) (rest : List Draw) : WritesSucceed (scripted (writesOk n ++ rest)) n := by
  intro k hk
  have h : ∀ n ≤ 9, ∀ k < n, (writesOk n)[3 * k]? = some (selDraw (.ok ()))
      ∧ (writesOk n)[3 * k + 1]? = some (writeDraw (.ok ())) ∧ (writesOk n)[3 * k + 2]? = some (selDraw (.ok ())) := by
    decide
  obtain ⟨h0, h1, h2⟩ := h n hn k hk
  refine ⟨?_, ?_, ?_⟩
  · rw [drawAt_scripted h0]; rfl
  · rw [drawAt_scripted h1]; rfl
  · rw [drawAt_scripted h2]; rfl

theorem readsOk_succeed (n : Nat) (hn : n ≤ 10) (rest : List Draw) :
    ReadsSucceed (scripted (readsOk n ++ rest)) n rxAt := by
  intro k hk
  have h : ∀ n ≤ 10, ∀ k < n, (readsOk n)[3 * k]? = some (selDraw (.ok ()))
      ∧ (readsOk n)[3 * k + 1]? = some (readDraw (.ok (rxAt k))) ∧ (readsOk n)[3 * k + 2]? = some (selDraw (.ok ())) := by
    decide
  obtain ⟨h0, h1, h2⟩ := h n hn k hk
  refine ⟨?_, ?_, ?_⟩
  · rw [drawAt_scripted h0]; rfl
  · rw [drawAt_scripted h1]; rfl
  · rw [drawAt_scripted h2]; rfl

theorem witness_WrallSendsTheNineImagesInOrder : WritesSucceed (scripted (writesOk 9)) 9 := by
  simpa using writesOk_succeed 9 (by decide) []

theorem witness_WrallStopsAtItsFirstFailure :
    ((writeFrames resetFields)[8]? = some (0x49, 0x00)
        ∧ WritesSucceed (scripted (writesOk 8 ++ writeTx (.ok ()) (.error ⟨2⟩) (.error ⟨3⟩))) 8
        ∧ WriteAnswers (scripted (writesOk 8 ++ writeTx (.ok ()) (.error ⟨2⟩) (.error ⟨3⟩))) (3 * 8) (.ok ()) (.error ⟨2⟩)
            (.error ⟨3⟩)
        ∧ (courseRow (.write (0x49, 0x00)) (.error ⟨2⟩ : Except BusErr Unit) (.error ⟨3⟩)).outcome = .error (.select ⟨3⟩))
      ∧ (WritesSucceed (scripted (writesOk 8 ++ [selDraw (.error ⟨1⟩)])) 8
        ∧ ((scripted (writesOk 8 ++ [selDraw (.error ⟨1⟩)])).env.drawAt (3 * 8)).sel = some (.error ⟨1⟩)) :=
  ⟨⟨rfl, writesOk_succeed 8 (by decide) _, ⟨rfl, rfl, rfl⟩, rfl⟩, writesOk_succeed 8 (by decide) _, rfl⟩

/-- Full success, and a failure at the first and at the last index. -/
theorem witness_WrallTraceAndFirstFailure :
    WritesSucceed (scripted (writesOk 9)) 9
      ∧ ((writeFrames resetFields)[0]? = some (0x40, 0x45) ∧ WritesSucceed (scripted [selDraw (.error ⟨1⟩)]) 0
        ∧ ((scripted [selDraw (.error ⟨1⟩)]).env.drawAt 0).sel = some (.error ⟨1⟩))
      ∧ ((writeFrames resetFields)[8]? = some (0x49, 0x00)
        ∧ WritesSucceed (scripted (writesOk 8 ++ writeTx (.ok ()) (.error ⟨2⟩) (.ok ()))) 8
        ∧ WriteAnswers (scripted (writesOk 8 ++ writeTx (.ok ()) (.error ⟨2⟩) (.ok ()))) (3 * 8) (.ok ()) (.error ⟨2⟩) (.ok ())
        ∧ (Except.error ⟨2⟩ : Except BusErr Unit) ≠ .ok ()) :=
  ⟨witness_WrallSendsTheNineImagesInOrder, ⟨rfl, fun _ h => absurd h (Nat.not_lt_zero _), rfl⟩,
    rfl, writesOk_succeed 8 (by decide) _, ⟨rfl, rfl, rfl⟩, by decide⟩

theorem witness_RdallReadsTheTenRegistersInOrder : ReadsSucceed (scripted (readsOk 10)) 10 rxAt := by
  simpa using readsOk_succeed 10 (by decide) []

/-- A failure at the first and at the last index. -/
theorem witness_RdallStopsAtItsFirstFailure :
    (ReadsSucceed (scripted [selDraw (.error ⟨1⟩)]) 0 rxAt
        ∧ ((scripted [selDraw (.error ⟨1⟩)]).env.drawAt 0).sel = some (.error ⟨1⟩))
      ∧ (ReadsSucceed (scripted (readsOk 9 ++ readTx (.ok ()) (.ok (0, 0x19)) (.error ⟨3⟩))) 9 rxAt
        ∧ ReadAnswers (scripted (readsOk 9 ++ readTx (.ok ()) (.ok (0, 0x19)) (.error ⟨3⟩))) (3 * 9) (.ok ()) (.ok (0, 0x19))
            (.error ⟨3⟩)
        ∧ (courseRow (.exchange (readFrameAt 9)) (.ok (0, 0x19) : Except BusErr (Byte × Byte)) (.error ⟨3⟩)).outcome
            = .error (.select ⟨3⟩)) :=
  ⟨⟨fun _ h => absurd h (Nat.not_lt_zero _), rfl⟩, readsOk_succeed 9 (by decide) _, ⟨rfl, rfl, rfl⟩, rfl⟩

theorem witness_BusCommandsNeverChangeTheMirror :
    makesCalls .rdall = true ∧ ∃ t, exec .rdall (scripted (readsOk 10)) = .next t := ⟨rfl, _, rfl⟩

theorem witness_ResultPartsAreDefinedAsTheTableSays :
    (∀ a v, Instr.rdall ≠ .frameW a v) ∧ (∀ a, Instr.rdall ≠ .frameR a)
      ∧ read State.busy (exec .rdall (scripted (readsOk 10))) = some false :=
  ⟨by intros; simp, by intros; simp, by decide⟩

/-- One command that ends and one that waits. -/
theorem witness_ErrorsLeaveTheUnitIdle :
    makesCalls .rderr = true ∧ read State.busy (exec .rderr (scripted [selDraw (.error ⟨1⟩)])) = some false
      ∧ read State.busy (exec .rderr (scripted [silentDraw])) = some true := by decide

theorem witness_SelectLineAfterABusCommand :
    makesCalls .rderr = true
      ∧ read (fun t => (t.busy, t.result.isSome)) (exec .rderr (scripted [selDraw (.error ⟨1⟩)])) = some (false, true) := by
  decide

/-- Each bound is reached: 0, 1 and 3 calls, 27 and 30; and a waiting command has made fewer. -/
theorem witness_CallCountsPerCommand :
    read (fun t => t.trace.length) (exec .getbTof0 State.reset) = some 0
      ∧ read (fun t => t.trace.length) (exec .rderr (scripted [selDraw (.error ⟨1⟩)])) = some 1
      ∧ read (fun t => (t.trace.length, t.busy)) (exec .rderr (scripted [selDraw (.ok ()), silentDraw])) = some (1, true)
      ∧ read (fun t => t.trace.length) (exec (.wrerr .noOp) (scripted (writesOk 1))) = some 3
      ∧ read (fun t => t.trace.length) (exec .wrall (scripted (writesOk 9))) = some 27
      ∧ read (fun t => t.trace.length) (exec .rdall (scripted (readsOk 10))) = some 30 := by
  refine ⟨?_, ?_, ?_, ?_, ?_, ?_⟩ <;> decide

theorem witness_FramesSentAreTheListedOnes :
    (∀ a v, Instr.wrall ≠ .frameW a v) ∧ (∀ a, Instr.wrall ≠ .frameR a)
      ∧ ∃ t, exec .wrall (scripted (writesOk 9)) = .next t :=
  ⟨by intros; simp, by intros; simp, _, rfl⟩

/-- Two environments that differ in a byte read and in a payload, and answer alike. -/
theorem witness_NoDataValueChangesTheCalls :
    (∀ k, SameAnswers ((scripted (readTx (.ok ()) (.ok (0, 1)) (.error ⟨3⟩))).env.drawAt k)
        ((scripted (readTx (.ok ()) (.ok (7, 9)) (.error ⟨4⟩))).env.drawAt k))
      ∧ (∃ t, exec (.rdreg .tof0) (scripted (readTx (.ok ()) (.ok (0, 1)) (.error ⟨3⟩))) = .next t)
      ∧ ∃ t, exec (.rdreg .tof0) (scripted (readTx (.ok ()) (.ok (7, 9)) (.error ⟨4⟩))) = .next t := by
  refine ⟨fun k => ?_, ⟨_, rfl⟩, ⟨_, rfl⟩⟩
  match k with
  | 0 => exact ⟨rfl, rfl, rfl⟩
  | 1 => exact ⟨rfl, rfl, rfl⟩
  | 2 => exact ⟨rfl, rfl, rfl⟩
  | k + 3 => simp [SameAnswers, scripted, readTx, Env.drawAt]

/-- From reset with a word offered, with a primitive placed, and from a unit that waits. -/
theorem witness_StepKeepsTheInvariant :
    (offered 0xC00000).Inv ∧ (∃ t, step (offered 0xC00000) = .next t)
      ∧ (placed 0x4703).Inv ∧ (∃ t, step (placed 0x4703) = .next t)
      ∧ (waitingUnit []).Inv ∧ step (waitingUnit []) = .next (waitingUnit []) :=
  ⟨by decide, ⟨_, rfl⟩, by decide, ⟨_, rfl⟩, by decide, rfl⟩

/-- An idle unit that has made calls, all of them answered `ok` by the select line. -/
theorem witness_IdleLineIsInactiveWithoutSelectError :
    let s : State := { State.reset with trace := readCalls (0x07, 0xFF) (0, 5) }
    s.Inv ∧ s.busy = false ∧ ∀ e ∈ s.trace, selectFailed e = false := by decide

/-- A step that sends: `WRALL`, whose last frame is 0x49, and `WRERR`, whose code is 3. -/
theorem witness_OnlyWrallWritesAConfigurationRegister :
    (offer 0x800000 (scripted (writesOk 9))).primitive = none
      ∧ read (fun t => t.trace.contains (.write (0x49, 0x00) (.ok ()))) (step (offer 0x800000 (scripted (writesOk 9))))
          = some true
      ∧ (offer 0x600003 (scripted (writesOk 1))).primitive = none
      ∧ read (fun t => t.trace.contains (.write (0x47, 0x03) (.ok ()))) (step (offer 0x600003 (scripted (writesOk 1))))
          = some true := by
  refine ⟨rfl, ?_, rfl, ?_⟩ <;> decide

/-- Each side of the equivalence is met, at the bound of a range: the largest image of ClockRate, the largest code. -/
theorem witness_SendableBytesAreTheImagesAndCodes :
    packClockRate { resetFields with clockInDivider := .divideBy2, autoZeroPeriod := .t0Times512 } = 0x07
      ∧ RegAddr.clockRate.sends 0x07 = true ∧ RegAddr.clockRate.sends 0x08 = false
      ∧ ErrControl.resetErrorStateMachineAndMeasurement.code.setWidth 8 = (0x03 : Byte)
      ∧ RegAddr.errFlag.sends 0x03 = true ∧ RegAddr.errFlag.sends 0x04 = false := by decide

/-- The largest write frame and read frame, a frame that decodes, and one that is dropped. -/
theorem witness_FramesDecodeAsTheirRows :
    decodeFrame 0x4907 = .ok (.frameW .clockRate 0x07) ∧ decodeFrame 0x09FF = .ok (.frameR .clockRate)
      ∧ (placed 0x47FF).busy = false ∧ (placed 0x47FF).primitive = some 0x47FF
      ∧ decodeFrame 0x47FF = .error .frameData := ⟨rfl, rfl, rfl, rfl, rfl⟩

/-- A step from a state of the invariant that sends Config1, every bit of its fields set. -/
theorem witness_Config1IsSentWithItsReservedBitsZero :
    let s := offer 0x800000 { scripted (writesOk 9) with
      mirror := { resetFields with measurementCycles := .cycles128, receiveEvents := .events7 } }
    s.Inv ∧ read (fun t => t.trace.contains (.write (0x41, 0x3F) (.ok ()))) (step s) = some true := by decide

end Sys2Proof.Tests
end

section
/-! The step of an idle unit that is given an instruction (spec R9, R27, R73). -/

namespace Sys2Proof.Machine

/-- Settles O8: the step takes the word or the frame (`step_word`, `step_primitive`), and what is taken runs as
the instruction it decodes to (`runWord_ok`, `runFrame_ok`); `decode` is `decodeCommand` on the one and
`decodeFrame` on the other. -/
theorem stepRunsTheDecodedInstruction : Obligations.StepRunsTheDecodedInstruction := by
  constructor
  · intro s w rest i hbusy hprim hport hdecode
    calc step s = runWord w { s with port := rest } := step_word hbusy hprim hport
      _ = exec i { s with port := rest } := runWord_ok hdecode
  · intro s f i hbusy hprim hdecode
    calc step s = runFrame f { s with primitive := none } := step_primitive hbusy hprim
      _ = exec i { s with primitive := none } := runFrame_ok hdecode

end Sys2Proof.Machine
end

section
/-! Which instruction is of which family, and what `exec` answers for it: the facts about the dispatch that the
statements about every instruction start from. -/

namespace Sys2Proof.Machine

/-! ### The families of instructions -/

/-- Every instruction is a setter, a byte accessor, or one of the seven that make capability calls. -/
theorem instr_cases (i : Instr) :
    (setterTarget i).isSome = true ∨ (getterTarget i).isSome = true ∨ (∃ a, i = .rdreg a) ∨ (∃ c, i = .wrerr c)
      ∨ i = .wrall ∨ i = .rdall ∨ i = .rderr ∨ (∃ a v, i = .frameW a v) ∨ ∃ a, i = .frameR a := by
  cases i <;> simp [setterTarget, getterTarget]

theorem setter_is_no_getter {i : Instr} (h : (setterTarget i).isSome = true) : getterTarget i = none := by
  cases i <;> simp [setterTarget] at h <;> rfl

/-! ### What `exec` answers -/

theorem exec_setter {i : Instr} (h : (setterTarget i).isSome = true) (s : State) :
    ∃ m, exec i s = .next (s.setMirror m) := by
  cases i <;> simp [setterTarget] at h <;> exact ⟨_, rfl⟩

theorem exec_getter {i : Instr} (h : (getterTarget i).isSome = true) (s : State) :
    ∃ b, exec i s = .next (s.present (Result.byte b)) := by
  cases i <;> simp [getterTarget] at h <;> exact ⟨_, rfl⟩

section
variable (s : State)

theorem exec_rdreg_eq (a : RegAddr) :
    exec (.rdreg a) s = .next (finishCommand (fun _ b => Result.byte b) (rd a s.accept)) := rfl

theorem exec_wrerr_eq (c : ErrControl) :
    exec (.wrerr c) s
      = .next (finishCommand (fun _ _ => Result.done) (wr .errFlag (c.code.setWidth 8) s.accept)) := rfl

theorem exec_wrall_eq :
    exec .wrall s
      = .next (finishCommand (fun _ _ => Result.done) (writeFrom writeOrder { s.accept with seq := 0 })) := rfl

theorem exec_rdall_eq :
    exec .rdall s = .next (finishCommand (fun t _ => Result.buffer t.rxbuf)
      (forgetBuffer (readFrom readOrder { s.accept with seq := 0 }))) := rfl

theorem exec_rderr_eq :
    exec .rderr s
      = .next (finishCommand (fun _ b => Result.snapshot (unpackStatus b)) (rd .errFlag s.accept)) := rfl

theorem exec_frameW_eq (a : RegAddr) (v : Byte) :
    exec (.frameW a v) s = .next (finishCommand (fun _ _ => Result.done) (wr a v s.accept)) := rfl

theorem exec_frameR_eq (a : RegAddr) :
    exec (.frameR a) s = .next (finishCommand (fun _ b => Result.byte b) (rd a s.accept)) := rfl
end

end Sys2Proof.Machine
end

section
/-! The invariant of the unit (spec R27 to R29, R32, R51, R66, R170): the bytes that are sent, what the trace says
after more calls, what a transaction, a composite loop and the end of a command keep, and the step. -/

namespace Sys2Proof.Machine

/-! ### The bytes a write frame carries -/

/-- A field placed beside a range of bits leaves that range 0. -/
theorem place_extract_outside {w i n o : Nat} (v : BitVec w) (h : o + w ≤ i ∨ i + n ≤ o) :
    (place v o).extractLsb' i n = 0 := by
  apply BitVec.eq_of_getLsbD_eq
  intro k hk
  rcases h with h | h
  · have hv : v.getLsbD (i + k - o) = false := BitVec.getLsbD_of_ge _ _ (by omega)
    simp [place, hv]
  · simp [place, show i + k < o by omega]

/-- Every image lies inside its register's fields (spec R26, R85): `WRALL` sends only legal bytes. -/
theorem writeOrder_sends (m : Mirror) : ∀ x ∈ writeOrder, x.1.sends (x.2 m) = true := by
  simp only [writeOrder, List.forall_mem_cons, List.not_mem_nil, false_imp_iff, implies_true, and_true]
  refine ⟨rfl, ?config1, ?config2, ?config3, ?config4, rfl, rfl, ?timeOut, ?clockRate⟩
  case config2 =>
    have mode : (place m.tofMeasMode.code 0).extractLsb' 0 2 ≠ 3#2 := by cases m.tofMeasMode <;> decide
    simp (disch := decide) [RegAddr.sends, packConfig2, BitVec.extractLsb'_or, place_extract_outside, mode]
  all_goals
    simp (disch := decide) [RegAddr.sends, packConfig1, packConfig3, packConfig4, packTimeOut, packClockRate,
      BitVec.extractLsb'_or, place_extract_outside]

theorem errFlag_sends_code (c : ErrControl) : RegAddr.errFlag.sends (c.code.setWidth 8) = true := by
  cases c <;> rfl

/-- A write frame to be run by itself carries a byte the unit can send (spec R64, R66). -/
def SendsLegalByte (i : Instr) : Prop := ∀ a v, i = .frameW a v → a.sends v = true

theorem enumerated_ne {α : Type} {v : Option α} {mk : α → Instr} {i : Instr} (h : ∀ x, mk x ≠ i) :
    enumerated v mk ≠ .ok i := by
  cases v <;> simp [enumerated, h]

theorem decodeSet_ne_frameW (sel : BitVec 5) (imm : BitVec 16) (a : RegAddr) (v : Byte) :
    decodeSet sel imm ≠ .ok (.frameW a v) := by
  unfold decodeSet
  split <;> simp [enumerated_ne]

/-- No command word spells the write primitive (spec R91). -/
theorem decodeCommand_ne_frameW (w : CommandWord) (a : RegAddr) (v : Byte) :
    decodeCommand w ≠ .ok (.frameW a v) := by
  have bare (sel imm) {i : Instr} (h : i ≠ .frameW a v) : decodeNone sel imm i ≠ .ok (.frameW a v) := by
    unfold decodeNone
    split_ifs <;> simp [h]
  unfold decodeCommand
  split
  · exact decodeSet_ne_frameW _ _ a v
  · unfold decodeGetb
    split_ifs
    · simp
    · split <;> simp
  · unfold decodeRdreg
    split_ifs
    · simp
    · split <;> simp
  · unfold decodeWrerr
    split_ifs
    · simp
    · split <;> simp
  · exact bare _ _ nofun
  · exact bare _ _ nofun
  · exact bare _ _ nofun
  · simp

theorem decodeCommand_sendsLegalByte {w : CommandWord} {i : Instr} (h : decodeCommand w = .ok i) :
    SendsLegalByte i := by
  rintro a v rfl
  exact absurd h (decodeCommand_ne_frameW w a v)

theorem decodeFrame_sendsLegalByte {f : FrameWord} {i : Instr} (h : decodeFrame f = .ok i) :
    SendsLegalByte i := by
  rintro a v rfl
  unfold decodeFrame at h
  split at h
  · cases h
  split at h
  · cases h
  split at h
  · split at h
    · next hsends => cases h; exact hsends
    · cases h
  · split at h <;> cases h

/-! ### The trace -/

/-- The calls `t` stand in order with the call of phase `p` next, they leave the line at `l`, and their frames are
legal: the part of `State.Inv` that is about the trace. -/
structure TraceAt (t : List TraceEntry) (l : SelLine) (p : Phase) : Prop where
  bracket : bracketOf t = some p
  line : l = lineOf t
  legal : t.all frameLegal = true

/-- A call that can stand as the transfer of a transaction. -/
structure LegalTransfer (e : TraceEntry) : Prop where
  bracket : bracketStep (some .xfer) e = some .deassert
  line (l : SelLine) : lineStep l e = l
  legal : frameLegal e = true

theorem legalTransfer_write {a : RegAddr} {v : Byte} (h : a.sends v = true) (r : Except BusErr Unit) :
    LegalTransfer (.write (writeFrame a v) r) where
  bracket := rfl
  line _ := rfl
  legal := by
    have address : a.byte ||| writeBit = BitVec.ofNat 8 (64 + a.number) := by cases a <;> rfl
    have listed : a ∈ RegAddr.variants := by cases a <;> decide
    exact List.any_eq_true.mpr ⟨a, listed, by simp [address, writeFrame, h]⟩

theorem legalTransfer_exchange (a : RegAddr) (r : Except BusErr (Byte × Byte)) :
    LegalTransfer (.exchange (readFrame a) r) where
  bracket := rfl
  line _ := rfl
  legal := by cases a <;> rfl

section
variable {t : List TraceEntry} {l : SelLine} {p q : Phase}

/-- One more call in its place. -/
theorem TraceAt.call {e : TraceEntry} (h : TraceAt t l p) (hbracket : bracketStep (some p) e = some q)
    (hlegal : frameLegal e = true) : TraceAt (t ++ [e]) (lineStep l e) q where
  bracket := by rw [bracketOf, List.foldl_append, ← bracketOf, h.bracket]; exact hbracket
  line := by rw [lineOf, List.foldl_append, ← lineOf, ← h.line]; rfl
  legal := by simp [h.legal, hlegal]

theorem TraceAt.asserted (h : TraceAt t l .assert) : TraceAt (t ++ [.selAssert (.ok ())]) .active .xfer :=
  h.call rfl rfl

theorem TraceAt.assertFailed (h : TraceAt t l .assert) (e1 : SelErr) :
    TraceAt (t ++ [.selAssert (.error e1)]) .unknown .assert :=
  h.call rfl rfl

theorem TraceAt.transferred {e : TraceEntry} (h : TraceAt t l .xfer) (he : LegalTransfer e) :
    TraceAt (t ++ [e]) l .deassert := by
  simpa only [he.line] using h.call he.bracket he.legal

theorem TraceAt.deasserted (h : TraceAt t l .deassert) (r3 : Except SelErr Unit) :
    TraceAt (t ++ [.selDeassert r3]) (lineAfterDeassert r3) .assert :=
  h.call rfl rfl
end

/-! ### Transactions -/

/-- The unit inside a command, between two transactions: the state in which a transaction begins. -/
structure State.Between (s : State) : Prop where
  busy : s.busy = true
  idle : s.phase = .idle
  pend : s.pend = none
  calls : TraceAt s.trace s.sel .assert

/-- What a transaction or a sequence of them, ended or waiting, leaves in the unit: `seq` within `bound`, and the
calls in order up to the place where it stopped. -/
structure LeavesInOrder (bound : Nat) {α : Type} (c : Course α) (s : State) : Prop where
  seq : s.seq ≤ bound
  done : ∀ v, c = .done v → s.Between
  raised : ∀ r, c = .raised r → TraceAt s.trace s.sel .assert
  hung : c = .hung → s.busy = true ∧ TraceAt s.trace s.sel s.phase

section
variable {α : Type} {n : Nat} {s : State}

theorem leavesInOrder_done {v : α} (hn : s.seq ≤ n) (h : s.Between) : LeavesInOrder n (.done v) s :=
  ⟨hn, fun _ _ => h, nofun, nofun⟩

theorem leavesInOrder_raised {r : Raise} (hn : s.seq ≤ n) (h : TraceAt s.trace s.sel .assert) :
    LeavesInOrder n (.raised r : Course α) s :=
  ⟨hn, nofun, fun _ _ => h, nofun⟩

theorem leavesInOrder_hung (hn : s.seq ≤ n) (h : s.busy = true ∧ TraceAt s.trace s.sel s.phase) :
    LeavesInOrder n (.hung : Course α) s :=
  ⟨hn, nofun, nofun, fun _ => h⟩

/-- A transaction whose three calls were answered ends in a value or in an error, and either way between
transactions. -/
theorem leavesInOrder_closing {r2 : Except BusErr α} {r3 : Except SelErr Unit} (hn : s.seq ≤ n) (h : s.Between) :
    LeavesInOrder n (closingCourse r2 r3) s := by
  rcases r3 with e3 | _
  · exact leavesInOrder_raised hn h.calls
  · rcases r2 with e2 | v
    · exact leavesInOrder_raised hn h.calls
    · exact leavesInOrder_done hn h

/-- A transaction keeps the calls in order at every place it can stop: one case for each course of spec R170 and
each call that may stay unanswered (R173). -/
theorem transact_leavesInOrder {get : Draw → Option (Except BusErr α)} {entry : Except BusErr α → TraceEntry}
    (htransfer : ∀ r, LegalTransfer (entry r)) (hn : s.seq ≤ n) (h : s.Between) :
    LeavesInOrder n (transact (callTransfer get entry) s).1 (transact (callTransfer get entry) s).2 := by
  rcases transact_cases get entry s with ⟨_, hx⟩ | ⟨e1, _, hx⟩ | ⟨_, _, hx⟩ | ⟨r2, _, _, _, hx⟩
    | ⟨r2, r3, _, _, _, hx⟩ <;> rw [hx]
  case inl => exact leavesInOrder_hung hn ⟨h.busy, by simpa [State.waiting] using h.calls⟩
  case inr.inl => exact leavesInOrder_raised hn (h.calls.assertFailed e1)
  case inr.inr.inl => exact leavesInOrder_hung hn ⟨h.busy, h.calls.asserted⟩
  case inr.inr.inr.inl =>
    have calls := h.calls.asserted.transferred (htransfer r2)
    exact leavesInOrder_hung hn ⟨h.busy, by simpa [State.waiting] using calls⟩
  case inr.inr.inr.inr =>
    have calls := (h.calls.asserted.transferred (htransfer r2)).deasserted r3
    exact leavesInOrder_closing hn ⟨h.busy, rfl, rfl, by simpa [State.closed, State.waiting] using calls⟩
end

section
variable {n : Nat} {s t : State}

theorem wr_leavesInOrder {a : RegAddr} {v : Byte} {c : Course Unit} (hx : wr a v s = (c, t))
    (hv : a.sends v = true) (hn : s.seq ≤ n) (h : s.Between) : LeavesInOrder n c t := by
  have := transact_leavesInOrder (get := Draw.write) (legalTransfer_write hv) hn h
  rwa [← wr_eq, hx] at this

theorem rd_leavesInOrder {a : RegAddr} {c : Course Byte} (hx : rd a s = (c, t)) (hn : s.seq ≤ n)
    (h : s.Between) : LeavesInOrder n c t := by
  have order := transact_leavesInOrder (get := Draw.exchange) (legalTransfer_exchange a) hn h
  rw [rd_eq] at hx
  rcases hy : transact (callTransfer Draw.exchange (.exchange (readFrame a))) s with ⟨rx | r | _, u⟩ <;>
    rw [hy] at hx order <;> cases hx
  · exact leavesInOrder_done order.seq (order.done rx rfl)
  · exact leavesInOrder_raised order.seq (order.raised r rfl)
  · exact leavesInOrder_hung order.seq (order.hung rfl)

/-! ### The composite loops -/

/-- A state between transactions stays one when `seq` and `rxbuf` are written. -/
theorem State.Between.withLoopVariables (h : s.Between) (k : Nat) (b : Vector Byte 10) :
    State.Between { s with seq := k, rxbuf := b } :=
  ⟨h.busy, h.idle, h.pend, h.calls⟩

/-- The loop of `WRALL` advances `seq` by 1 for each transaction that succeeds. -/
theorem writeFrom_leavesInOrder {order : List (RegAddr × (Mirror → Byte))}
    (horder : ∀ m, ∀ x ∈ order, x.1.sends (x.2 m) = true) (hn : s.seq + order.length ≤ n) (h : s.Between) :
    LeavesInOrder n (writeFrom order s).1 (writeFrom order s).2 := by
  induction order generalizing s with
  | nil => exact leavesInOrder_done hn h
  | cons x rest ih =>
    obtain ⟨a, pack⟩ := x
    have hv : a.sends (pack s.mirror) = true := horder s.mirror _ List.mem_cons_self
    rw [List.length_cons] at hn
    rcases hx : wr a (pack s.mirror) s with ⟨u | r | _, t⟩
    · rw [writeFrom_done hx]
      have order := wr_leavesInOrder hx hv le_rfl h
      have hseq : t.seq + 1 + rest.length ≤ n := by have : t.seq ≤ s.seq := order.seq; omega
      exact ih (fun m y hy => horder m y (List.mem_cons_of_mem _ hy)) hseq
        ((order.done u rfl).withLoopVariables (t.seq + 1) t.rxbuf)
    · rw [writeFrom_raised hx]
      exact wr_leavesInOrder hx hv (by omega) h
    · rw [writeFrom_hung hx]
      exact wr_leavesInOrder hx hv (by omega) h

/-- The same for the loop of `RDALL`. -/
theorem readFrom_leavesInOrder {order : List RegAddr} (hn : s.seq + order.length ≤ n) (h : s.Between) :
    LeavesInOrder n (readFrom order s).1 (readFrom order s).2 := by
  induction order generalizing s with
  | nil => exact leavesInOrder_done hn h
  | cons a rest ih =>
    rw [List.length_cons] at hn
    rcases hx : rd a s with ⟨b | r | _, t⟩
    · rw [readFrom_done hx]
      have order := rd_leavesInOrder hx le_rfl h
      have hseq : t.seq + 1 + rest.length ≤ n := by have : t.seq ≤ s.seq := order.seq; omega
      exact ih hseq ((order.done b rfl).withLoopVariables (t.seq + 1) _)
    · rw [readFrom_raised hx]
      have order := rd_leavesInOrder hx (by omega : s.seq ≤ n) h
      exact leavesInOrder_raised order.seq (order.raised r rfl)
    · rw [readFrom_hung hx]
      have order := rd_leavesInOrder hx (by omega : s.seq ≤ n) h
      exact leavesInOrder_hung order.seq (order.hung rfl)

/-- What a failed `RDALL` leaves in `rxbuf` touches nothing the order of calls is about (spec D14). -/
theorem forgetBuffer_leavesInOrder {c : Course Unit × State} (h : LeavesInOrder n c.1 c.2) :
    LeavesInOrder n (forgetBuffer c).1 (forgetBuffer c).2 := by
  rcases c with ⟨u | r | _, t⟩
  · exact h
  · exact leavesInOrder_raised h.seq (h.raised r rfl)
  · exact h
end

/-! ### Instructions -/

section
variable {s t : State}

/-- The invariant of an idle unit. -/
theorem inv_of_idle (hb : s.busy = false) (hidle : s.phase = .idle) (hpend : s.pend = none)
    (hcalls : TraceAt s.trace s.sel .assert) (hseq : s.seq ≤ 10) : s.Inv :=
  ⟨fun _ => ⟨hidle, hpend⟩, by simp [hb, hcalls.bracket], hcalls.line, hseq, hcalls.legal⟩

/-- The invariant of a unit that waits for an answer. -/
theorem inv_of_busy (hb : s.busy = true) (hcalls : TraceAt s.trace s.sel s.phase) (hseq : s.seq ≤ 10) : s.Inv :=
  ⟨by simp [hb], by simp [hb, hcalls.bracket], hcalls.line, hseq, hcalls.legal⟩

/-- What an instruction starts from when the step runs it. -/
theorem between_accept (hb : s.busy = false) (h : s.Inv) : s.accept.Between := by
  obtain ⟨hidle, bracket, line, _, legal⟩ := h
  obtain ⟨idle, pend⟩ := hidle hb
  exact ⟨rfl, idle, pend, by simpa [hb] using bracket, line, legal⟩

/-- A command without calls ends: a record is presented, a field register may have changed. -/
theorem inv_present (hb : s.busy = false) (h : s.Inv) (m : Mirror) (r : Result) :
    (State.present { s with mirror := m } r).Inv := by
  obtain ⟨hidle, bracket, line, seq, legal⟩ := h
  obtain ⟨idle, pend⟩ := hidle hb
  exact inv_of_idle rfl idle pend ⟨by simpa [hb] using bracket, line, legal⟩ seq

/-- The end of a bus command, or its waiting, meets the invariant. -/
theorem inv_finishCommand {α : Type} {ok : State → α → Result} {c : Course α × State}
    (h : LeavesInOrder 10 c.1 c.2) : (finishCommand ok c).Inv := by
  rcases c with ⟨v | r | _, t⟩
  · obtain ⟨_, idle, pend, calls⟩ := h.done v rfl
    exact inv_of_idle rfl idle pend calls h.seq
  · exact inv_of_idle rfl rfl rfl (h.raised r rfl) h.seq
  · obtain ⟨busy, calls⟩ := h.hung rfl
    exact inv_of_busy busy calls h.seq

/-- An instruction run on an idle unit keeps the invariant. -/
theorem exec_keeps_inv {i : Instr} (hi : SendsLegalByte i) (hb : s.busy = false) (h : s.Inv)
    (hexec : exec i s = .next t) : t.Inv := by
  have start : s.accept.Between := between_accept hb h
  have ⟨_, _, _, (hseq : s.accept.seq ≤ 10), _⟩ := h
  have loop : State.Between { s.accept with seq := 0 } := start.withLoopVariables 0 _
  have nine : 0 + writeOrder.length ≤ 10 := by decide
  have ten : 0 + readOrder.length ≤ 10 := by decide
  have writes {a : RegAddr} {v : Byte} (hv : a.sends v = true) {ok} : (finishCommand ok (wr a v s.accept)).Inv :=
    inv_finishCommand (wr_leavesInOrder rfl hv hseq start)
  have reads (a : RegAddr) {ok} : (finishCommand ok (rd a s.accept)).Inv :=
    inv_finishCommand (rd_leavesInOrder rfl hseq start)
  obtain hset | hget | ⟨a, rfl⟩ | ⟨c, rfl⟩ | rfl | rfl | rfl | ⟨a, v, rfl⟩ | ⟨a, rfl⟩ := instr_cases i
  · obtain ⟨m, hm⟩ := exec_setter hset s
    cases hm.symm.trans hexec
    exact inv_present hb h m _
  · obtain ⟨b, hm⟩ := exec_getter hget s
    cases hm.symm.trans hexec
    exact inv_present hb h s.mirror _
  · cases (exec_rdreg_eq s a).symm.trans hexec
    exact reads a
  · cases (exec_wrerr_eq s c).symm.trans hexec
    exact writes (errFlag_sends_code c)
  · cases (exec_wrall_eq s).symm.trans hexec
    exact inv_finishCommand (writeFrom_leavesInOrder writeOrder_sends nine loop)
  · cases (exec_rdall_eq s).symm.trans hexec
    exact inv_finishCommand (forgetBuffer_leavesInOrder (readFrom_leavesInOrder ten loop))
  · cases (exec_rderr_eq s).symm.trans hexec
    exact reads .errFlag
  · cases (exec_frameW_eq s a v).symm.trans hexec
    exact writes (hi a v rfl)
  · cases (exec_frameR_eq s a).symm.trans hexec
    exact reads a
end

/-! ### The statements -/

/-- Settles O11: each field is read off `State.reset`, and the nine images are packed from `resetFields`. -/
theorem resetStateIsIdleWithPowerOnImages : Obligations.ResetStateIsIdleWithPowerOnImages :=
  ⟨rfl, rfl, rfl, rfl, rfl, rfl, rfl, rfl, rfl, by decide⟩

/-- Settles O55: with no calls made, the line is at its start and the first call due is an assert. -/
theorem resetMeetsTheInvariant : Obligations.ResetMeetsTheInvariant :=
  inv_of_idle rfl rfl rfl ⟨rfl, rfl, rfl⟩ (Nat.zero_le 10)

/-- Settles O54, by the cases of the step: waiting changes nothing, RST gives the reset state (O55), an illegal word
only presents a record, and what a word or a frame decodes to is run by `exec` (`exec_keeps_inv`), a write frame
carrying a legal byte because the decoder takes no other. -/
theorem stepKeepsTheInvariant : Obligations.StepKeepsTheInvariant := by
  intro s t h hstep
  obtain ⟨_, _, hx⟩ | ⟨_, _, hx⟩ | ⟨hb, f, _, hframe⟩ | ⟨hb, _, hport⟩ := step_cases s
  · cases hx.symm.trans hstep
  · cases hx.symm.trans hstep
    exact h
  · obtain ⟨i, hdecode, hx⟩ | ⟨_, _, hx⟩ := hframe
    · exact exec_keeps_inv (s := { s with primitive := none }) (decodeFrame_sendsLegalByte hdecode)
        hb h (hx.symm.trans hstep)
    · cases hx.symm.trans hstep
      exact h
  · obtain ⟨_, hx⟩ | ⟨rest, _, hx⟩ | ⟨w, rest, i, _, hdecode, hx⟩ | ⟨w, rest, e, _, _, hx⟩ := hport
    · cases hx.symm.trans hstep
      exact h
    · cases hx.symm.trans hstep
      exact resetMeetsTheInvariant
    · exact exec_keeps_inv (s := { s with port := rest }) (decodeCommand_sendsLegalByte hdecode)
        hb h (hx.symm.trans hstep)
    · cases hx.symm.trans hstep
      exact inv_present (s := { s with port := rest }) hb h s.mirror _

end Sys2Proof.Machine
end

section
/-! The parts of a presented record (spec R31, R205): one lemma for each kind of record, the end of a bus command,
and the statement over every host command. -/

namespace Sys2Proof.Machine

/-- The record `r` has the parts the table of R31 and R205 gives the instruction `i`. -/
structure PartsFor (i : Instr) (r : Result) : Prop where
  legal : r.status ≠ .illegal
  quiet : makesCalls i = false → r.status = .ok
  err : r.err.isSome = true ↔ r.status ≠ .ok
  select : ∀ e, r.err = some (.select e) → r.status = .selectErr
  bus : ∀ e, r.err = some (.bus e) → r.status = .busErr
  data : r.data.isSome = true ↔ r.status = .ok ∧ ((getterTarget i).isSome = true ∨ ∃ a, i = .rdreg a)
  buf : r.buf.isSome = true ↔ r.status = .ok ∧ i = .rdall
  flags : r.flags.isSome = true ↔ r.status = .ok ∧ i = .rderr

/-! ### The records -/

section
variable {i : Instr}

/-- An error's record: its payload and no other part (spec R209). -/
theorem partsFor_failed (h : makesCalls i = true) (r : Raise) : PartsFor i (Result.failed r) := by
  constructor <;> cases r <;> simp [Result.failed, Result.done, Raise.status, h]

/-- The bare record, for a command that returns no value. -/
theorem partsFor_done (hget : getterTarget i = none) (hreg : ∀ a, i ≠ .rdreg a) (hall : i ≠ .rdall)
    (herr : i ≠ .rderr) : PartsFor i Result.done := by
  constructor <;> simp [Result.done, hget, hreg, hall, herr]

theorem partsFor_getter (h : (getterTarget i).isSome = true) (b : Byte) : PartsFor i (Result.byte b) := by
  have hall : i ≠ .rdall := by rintro rfl; cases h
  have herr : i ≠ .rderr := by rintro rfl; cases h
  constructor <;> simp [Result.byte, Result.done, h, hall, herr]

theorem partsFor_rdreg (a : RegAddr) (b : Byte) : PartsFor (.rdreg a) (Result.byte b) := by
  constructor <;> simp [Result.byte, Result.done]

theorem partsFor_rdall (v : Vector Byte 10) : PartsFor .rdall (Result.buffer v) := by
  constructor <;> simp [Result.buffer, Result.done, getterTarget]

theorem partsFor_rderr (f : Snapshot) : PartsFor .rderr (Result.snapshot f) := by
  constructor <;> simp [Result.snapshot, Result.done, getterTarget]

theorem partsFor_setter (h : (setterTarget i).isSome = true) : PartsFor i Result.done :=
  partsFor_done (setter_is_no_getter h) (by rintro a rfl; cases h) (by rintro rfl; cases h) (by rintro rfl; cases h)
end

/-! ### A bus command stays busy until it ends -/

section
variable {s : State}

theorem wr_busy (a : RegAddr) (v : Byte) : (wr a v s).2.busy = s.busy := by
  obtain ⟨_, _, _, _, h⟩ := wr_frame a v s
  rw [h]; rfl

theorem rd_busy (a : RegAddr) : (rd a s).2.busy = s.busy := by
  obtain ⟨_, _, _, _, h⟩ := rd_frame a s
  rw [h]; rfl

theorem writeFrom_busy (order : List (RegAddr × (Mirror → Byte))) (h : s.busy = true) :
    (writeFrom order s).2.busy = true :=
  writeFrom_keeps (fun s => s.busy = true) (fun a v _ hs => (wr_busy a v).trans hs) (fun _ hs => hs) order s h

theorem readFrom_busy (order : List RegAddr) (h : s.busy = true) : (readFrom order s).2.busy = true :=
  readFrom_keeps (fun s => s.busy = true) (fun a _ hs => (rd_busy a).trans hs) (fun _ _ hs => hs) order s h

theorem forgetBuffer_busy (c : Course Unit × State) : (forgetBuffer c).2.busy = c.2.busy := by
  rcases c with ⟨_ | _ | _, _⟩ <;> rfl
end

/-- The command has presented a record with the parts of `i`. -/
def PresentsPartsFor (i : Instr) (t : State) : Prop := ∃ r, t.result = some r ∧ PartsFor i r

/-- A bus command that ends presents the record of its value or that of its error. -/
theorem finishCommand_presentsParts {i : Instr} {α : Type} {ok : State → α → Result} {c : Course α × State}
    (hi : makesCalls i = true) (hok : ∀ t v, PartsFor i (ok t v)) (hbusy : c.2.busy = true)
    (hended : (finishCommand ok c).busy = false) : PresentsPartsFor i (finishCommand ok c) := by
  rcases c with ⟨v | r | _, t⟩
  · exact ⟨ok t v, rfl, hok t v⟩
  · exact ⟨Result.failed r, rfl, partsFor_failed hi r⟩
  · exact absurd (hbusy.symm.trans hended) (by decide)

/-- Every host command that ends presents a record with its parts. -/
theorem exec_presentsParts {i : Instr} {s t : State} (hframeW : ∀ a v, i ≠ .frameW a v)
    (hframeR : ∀ a, i ≠ .frameR a) (hexec : exec i s = .next t) (hended : t.busy = false) :
    PresentsPartsFor i t := by
  obtain hset | hget | ⟨a, rfl⟩ | ⟨c, rfl⟩ | rfl | rfl | rfl | ⟨a, v, rfl⟩ | ⟨a, rfl⟩ := instr_cases i
  · obtain ⟨m, hm⟩ := exec_setter hset s
    cases hm.symm.trans hexec
    exact ⟨Result.done, rfl, partsFor_setter hset⟩
  · obtain ⟨b, hm⟩ := exec_getter hget s
    cases hm.symm.trans hexec
    exact ⟨Result.byte b, rfl, partsFor_getter hget b⟩
  · cases (exec_rdreg_eq s a).symm.trans hexec
    exact finishCommand_presentsParts rfl (fun _ => partsFor_rdreg a) (rd_busy a) hended
  · cases (exec_wrerr_eq s c).symm.trans hexec
    exact finishCommand_presentsParts rfl (fun _ _ => partsFor_done rfl nofun nofun nofun) (wr_busy _ _) hended
  · cases (exec_wrall_eq s).symm.trans hexec
    exact finishCommand_presentsParts rfl (fun _ _ => partsFor_done rfl nofun nofun nofun) (writeFrom_busy _ rfl)
      hended
  · cases (exec_rdall_eq s).symm.trans hexec
    exact finishCommand_presentsParts rfl (fun t _ => partsFor_rdall t.rxbuf)
      ((forgetBuffer_busy _).trans (readFrom_busy _ rfl)) hended
  · cases (exec_rderr_eq s).symm.trans hexec
    exact finishCommand_presentsParts rfl (fun _ b => partsFor_rderr (unpackStatus b)) (rd_busy _) hended
  · exact absurd rfl (hframeW a v)
  · exact absurd rfl (hframeR a)

/-- Settles O48: the record an ended command presents has its parts (`exec_presentsParts`); the numbers of the
statuses are read off `Status.code`. -/
theorem resultPartsAreDefinedAsTheTableSays : Obligations.ResultPartsAreDefinedAsTheTableSays := by
  refine ⟨fun i s t hframeW hframeR hexec hended => ?_, rfl, rfl, rfl, rfl⟩
  obtain ⟨r, presented, legal, quiet, err, select, bus, data, buf, flags⟩ :=
    exec_presentsParts hframeW hframeR hexec hended
  exact ⟨r, presented, legal, quiet, err, select, bus, data, buf, flags⟩

end Sys2Proof.Machine
end

section
/-! What a bus command leaves unchanged (spec R53): one frame relation, kept by the transaction, by the two composite
loops and by the end of a command. -/

namespace Sys2Proof.Machine

/-- `t` agrees with `s` wherever the bus command `i` may not write: the field registers, the inputs to come, the
placed frame and the environment's script always, `seq` unless `i` is composite, `rxbuf` unless `i` is `RDALL`. -/
structure BusFrame (i : Instr) (s t : State) : Prop where
  mirror : t.mirror = s.mirror
  port : t.port = s.port
  primitive : t.primitive = s.primitive
  script : t.env.script = s.env.script
  seq : i ≠ .wrall → i ≠ .rdall → t.seq = s.seq
  rxbuf : i ≠ .rdall → t.rxbuf = s.rxbuf

/-- Every instruction that makes capability calls. -/
theorem busCommand_cases {i : Instr} (h : makesCalls i = true) :
    (∃ a, i = .rdreg a) ∨ (∃ c, i = .wrerr c) ∨ i = .wrall ∨ i = .rdall ∨ i = .rderr
      ∨ (∃ a v, i = .frameW a v) ∨ ∃ a, i = .frameR a := by
  cases i <;> simp [makesCalls] at h ⊢

section
variable {i : Instr} {s t : State}

/-- The frame, read as an equation: every other field is taken from `t`. -/
theorem BusFrame.eq_update (h : BusFrame i s t) :
    t = { s with
          busy := t.busy, phase := t.phase, pend := t.pend, sel := t.sel, result := t.result
          trace := t.trace, env := t.env, seq := t.seq, rxbuf := t.rxbuf } := by
  obtain ⟨mirror, port, primitive, _, _, _⟩ := h
  rw [← mirror, ← port, ← primitive]

/-! ### Commands of one transaction -/

theorem busFrame_accept (i : Instr) (s : State) : BusFrame i s s.accept :=
  ⟨rfl, rfl, rfl, rfl, fun _ _ => rfl, fun _ => rfl⟩

/-- Wherever a transaction ends or waits, it has written none of these fields. -/
theorem BusFrame.waiting (h : BusFrame i s t) (p : Phase) (pend : Option BusErr) (line : SelLine)
    (calls : List TraceEntry) : BusFrame i s (t.waiting p pend line calls) :=
  ⟨h.mirror, h.port, h.primitive, h.script, h.seq, h.rxbuf⟩

theorem BusFrame.wr (a : RegAddr) (v : Byte) (h : BusFrame i s t) : BusFrame i s (wr a v t).2 := by
  obtain ⟨p, pend, line, calls, hx⟩ := wr_frame a v t
  rw [hx]
  exact h.waiting p pend line calls

theorem BusFrame.rd (a : RegAddr) (h : BusFrame i s t) : BusFrame i s (rd a t).2 := by
  obtain ⟨p, pend, line, calls, hx⟩ := rd_frame a t
  rw [hx]
  exact h.waiting p pend line calls

/-! ### The composite commands -/

/-- `WRALL` may write `seq`. -/
theorem BusFrame.withSeq (h : BusFrame .wrall s t) (k : Nat) : BusFrame .wrall s { t with seq := k } :=
  ⟨h.mirror, h.port, h.primitive, h.script, fun hwrall => absurd rfl hwrall, h.rxbuf⟩

/-- `RDALL` may write `seq` and `rxbuf`. -/
theorem BusFrame.withLoopVariables (h : BusFrame .rdall s t) (k : Nat) (b : Vector Byte 10) :
    BusFrame .rdall s { t with seq := k, rxbuf := b } :=
  ⟨h.mirror, h.port, h.primitive, h.script, fun _ hrdall => absurd rfl hrdall, absurd rfl⟩

theorem BusFrame.writeFrom (order : List (RegAddr × (Mirror → Byte))) (h : BusFrame .wrall s t) :
    BusFrame .wrall s (writeFrom order t).2 :=
  writeFrom_keeps (BusFrame .wrall s) (fun a v _ => BusFrame.wr a v) (fun u hu => hu.withSeq (u.seq + 1)) order t h

theorem BusFrame.readFrom (order : List RegAddr) (h : BusFrame .rdall s t) :
    BusFrame .rdall s (readFrom order t).2 :=
  readFrom_keeps (BusFrame .rdall s) (fun a _ => BusFrame.rd a) (fun u _ hu => hu.withLoopVariables (u.seq + 1) _)
    order t h

theorem BusFrame.forgetBuffer {c : Course Unit × State} (h : BusFrame .rdall s c.2) :
    BusFrame .rdall s (forgetBuffer c).2 := by
  obtain ⟨_, _, hx⟩ | ⟨_, hx⟩ := forgetBuffer_cases c <;> rw [hx]
  · exact h.withLoopVariables c.2.seq _
  · exact h

/-! ### The end of a command -/

/-- Ended in a value, ended in an error or waiting: only the record, `busy`, `phase` and `pend` are written. -/
theorem BusFrame.finishCommand {α : Type} (ok : State → α → Result) {c : Course α × State}
    (h : BusFrame i s c.2) : BusFrame i s (finishCommand ok c) := by
  obtain ⟨mirror, port, primitive, script, seq, rxbuf⟩ := h
  obtain ⟨_, _, hx⟩ | ⟨_, _, hx⟩ | ⟨_, hx⟩ := finishCommand_cases ok c <;> rw [hx] <;>
    exact ⟨mirror, port, primitive, script, seq, rxbuf⟩
end

/-- Every bus command keeps to its frame. -/
theorem exec_busFrame {i : Instr} {s t : State} (hi : makesCalls i = true) (hexec : exec i s = .next t) :
    BusFrame i s t := by
  have start : BusFrame i s s.accept := busFrame_accept i s
  obtain ⟨a, rfl⟩ | ⟨c, rfl⟩ | rfl | rfl | rfl | ⟨a, v, rfl⟩ | ⟨a, rfl⟩ := busCommand_cases hi
  · cases (exec_rdreg_eq s a).symm.trans hexec
    exact (start.rd a).finishCommand _
  · cases (exec_wrerr_eq s c).symm.trans hexec
    exact (start.wr .errFlag _).finishCommand _
  · cases (exec_wrall_eq s).symm.trans hexec
    exact ((start.withSeq 0).writeFrom writeOrder).finishCommand _
  · cases (exec_rdall_eq s).symm.trans hexec
    exact ((start.withLoopVariables 0 s.rxbuf).readFrom readOrder).forgetBuffer.finishCommand _
  · cases (exec_rderr_eq s).symm.trans hexec
    exact (start.rd .errFlag).finishCommand _
  · cases (exec_frameW_eq s a v).symm.trans hexec
    exact (start.wr a v).finishCommand _
  · cases (exec_frameR_eq s a).symm.trans hexec
    exact (start.rd a).finishCommand _

/-- Settles O47: the parts of the frame every bus command keeps to (`exec_busFrame`). -/
theorem busCommandsNeverChangeTheMirror : Obligations.BusCommandsNeverChangeTheMirror := by
  intro i s t hi hexec
  have frame : BusFrame i s t := exec_busFrame hi hexec
  exact ⟨frame.eq_update, frame.seq, frame.rxbuf, frame.script⟩

end Sys2Proof.Machine
end

section
/-! The decoder and the encoder, format by format (spec R72 to R77, R63 to R66): what each format decodes to, which
instruction a decoded word spells, and the list of refused words (R86). -/

namespace Sys2Proof

/-! ### Code tables -/

section
variable {α : Type} {w n : Nat} {variants : List α} {code : α → BitVec w}

/-- A table whose codes are `0` to `n - 1` lists every code below `n`. -/
theorem exists_variant_of_lt (htable : variants.map (fun v => (code v).toNat) = List.range n) {k : Nat} (hk : k < n) :
    ∃ v ∈ variants, (code v).toNat = k := by
  rwa [← List.mem_range, ← htable, List.mem_map] at hk

theorem code_lt_of_mem (htable : variants.map (fun v => (code v).toNat) = List.range n) {v : α} (hv : v ∈ variants) :
    (code v).toNat < n := by
  rw [← List.mem_range, ← htable]
  exact List.mem_map_of_mem hv

theorem code_setWidth_eq_iff (hw : w ≤ 16) (c : BitVec w) (imm : BitVec 16) :
    c.setWidth 16 = imm ↔ c.toNat = imm.toNat := by
  rw [← BitVec.toNat_inj, BitVec.toNat_setWidth_of_le hw]

/-- The search of a code table fails exactly above its codes (spec R74). -/
theorem variantOf_eq_none_iff (htable : variants.map (fun v => (code v).toNat) = List.range n) (hw : w ≤ 16)
    (imm : BitVec 16) : variantOf variants code imm = none ↔ n ≤ imm.toNat := by
  simp only [variantOf, List.find?_eq_none, beq_iff_eq, code_setWidth_eq_iff hw]
  constructor
  · intro hnone
    by_contra! hlt
    obtain ⟨v, hv, hcode⟩ := exists_variant_of_lt htable hlt
    exact hnone v hv hcode
  · intro hle v hv
    have := code_lt_of_mem htable hv
    omega

variable {mk : α → Instr} {imm : BitVec 16} {i : Instr}

theorem enumerated_ok (h : enumerated (variantOf variants code imm) mk = .ok i) :
    ∃ v, i = mk v ∧ (code v).setWidth 16 = imm := by
  rcases hv : variantOf variants code imm with _ | v <;> rw [hv] at h <;> cases h
  exact ⟨v, rfl, variantOf_some hv⟩

/-- An enumerated operand is refused exactly when `imm` is above the last code (spec R86). -/
theorem enumerated_error_iff {last : Nat} (htable : variants.map (fun v => (code v).toNat) = List.range (last + 1))
    (hw : w ≤ 16) : (∃ e, enumerated (variantOf variants code imm) mk = .error e) ↔ last < imm.toNat := by
  rw [← Nat.succ_le_iff, ← variantOf_eq_none_iff htable hw]
  cases variantOf variants code imm <;> simp [enumerated]
end

/-- Only the addresses 0 to 9 exist (spec R47). -/
theorem RegAddr.ofNumber_eq_none_iff (n : Nat) : RegAddr.ofNumber n = none ↔ 9 < n := by
  constructor
  · intro hnone
    by_contra! hle
    interval_cases n <;> cases hnone
  · intro hlt
    cases ha : RegAddr.ofNumber n with
    | none => rfl
    | some a =>
      have := RegAddr.ofNumber_some ha
      have := a.number_lt
      omega

/-! ### Decoding what was encoded -/

theorem decode_encodeSet (id : BitVec 5) (imm : BitVec 16) : decode (encodeSet id imm) = decodeSet id imm := by
  simp [decode, encodeSet, decodeCommand]

/-- The word of a setter whose row of the decoder searches a code table that lists the operand. -/
theorem decode_enumerated {α : Type} {w : Nat} {id : BitVec 5} {variants : List α} {code : α → BitVec w}
    {mk : α → Instr} {v : α} (hrow : ∀ imm, decodeSet id imm = enumerated (variantOf variants code imm) mk)
    (hv : variantOf variants code ((code v).setWidth 16) = some v) :
    decode (encodeSet id ((code v).setWidth 16)) = .ok (mk v) := by
  rw [decode_encodeSet, hrow, hv, enumerated]

/-- The word of a clamped setter whose operand fits. -/
theorem decode_clamped {id : BitVec 5} {mk : Int → Instr} {raw : Int}
    (hrow : ∀ imm, decodeSet id imm = .ok (mk imm.toInt)) (hfits : fitsImm raw = true) :
    decode (encodeSet id (BitVec.ofInt 16 raw)) = .ok (mk raw) := by
  rw [decode_encodeSet, hrow, toInt_ofInt_of_fitsImm hfits]

/-! ### Frames -/

section
variable {f : FrameWord} {a : RegAddr} {i : Instr}

/-- The address byte of a write frame as a number (spec R63). -/
theorem writeAddress_toNat (a : RegAddr) (v : Byte) : (writeFrame a v).1.toNat = 64 + a.number := by cases a <;> rfl

theorem readAddress_toNat (a : RegAddr) : (readFrame a).1.toNat = a.number := by cases a <;> rfl

/-- The parts of an address byte: no top bit, the kind of the frame in bit 6, the register below (spec R63). -/
theorem addressByte_parts {b : Byte} {d : Nat} (hd : d ≤ 1) (hb : b.toNat = 64 * d + a.number) :
    b.extractLsb' 7 1 = 0 ∧ b.extractLsb' 6 1 = BitVec.ofNat 1 d ∧ (b.extractLsb' 0 6).toNat = a.number := by
  have hlt := a.number_lt
  refine ⟨BitVec.eq_of_toNat_eq ?_, BitVec.eq_of_toNat_eq ?_, ?_⟩ <;>
    simp [hb, Nat.shiftRight_eq_div_pow] <;> omega

/-- An address byte is made of its three parts. -/
theorem addressByte_toNat (b : Byte) :
    b.toNat = 128 * (b.extractLsb' 7 1).toNat + 64 * (b.extractLsb' 6 1).toNat + (b.extractLsb' 0 6).toNat := by
  simp [Nat.shiftRight_eq_div_pow]
  omega

theorem decodeFrame_write {v : Byte} (haddr : (txAddress f).toNat = 64 + a.number) (hdata : txData f = v)
    (hsends : a.sends v = true) : decodeFrame f = .ok (.frameW a v) := by
  obtain ⟨top, kind, number⟩ := addressByte_parts (d := 1) le_rfl haddr
  simp [decodeFrame, top, kind, number, RegAddr.ofNumber_number, hdata, hsends]

theorem decodeFrame_read (haddr : (txAddress f).toNat = a.number) (hdata : txData f = filler) :
    decodeFrame f = .ok (.frameR a) := by
  obtain ⟨top, kind, number⟩ := addressByte_parts (d := 0) (Nat.zero_le 1) (by simpa using haddr)
  simp [decodeFrame, top, kind, number, RegAddr.ofNumber_number, hdata]

/-- Everything a frame can decode to, with the bytes of the frame (spec R66). -/
theorem decodeFrame_ok (h : decodeFrame f = .ok i) :
    (∃ a, i = .frameW a (txData f) ∧ a.sends (txData f) = true ∧ (txAddress f).toNat = 64 + a.number)
      ∨ ∃ a, i = .frameR a ∧ txData f = filler ∧ (txAddress f).toNat = a.number := by
  have parts := addressByte_toNat (txAddress f)
  rcases ha : RegAddr.ofNumber ((txAddress f).extractLsb' 0 6).toNat with _ | a <;>
    simp only [decodeFrame, ha] at h
  · split_ifs at h
  rw [← RegAddr.ofNumber_some ha] at parts
  split_ifs at h with top write hsends hfiller <;> cases h <;> rw [not_not] at top
  · rw [top, write] at parts
    exact .inl ⟨a, rfl, hsends, parts⟩
  · rw [top, (BitVec.eq_zero_or_eq_one _).resolve_right write] at parts
    exact .inr ⟨a, rfl, hfiller, by simpa using parts⟩
end

/-! ### Each well-formed instruction has one word, and each legal word one instruction -/

/-- `w` is the word of the well-formed instruction `i` (spec R72). -/
structure IsWordOf (w : InstrWord) (i : Instr) : Prop where
  wellFormed : WellFormed i
  encode : encode i = w

section
variable {sel : BitVec 5} {imm : BitVec 16} {i : Instr}

theorem isWordOf_of_op {w : CommandWord} {k : Nat} (hop : (opOf w).toNat = k)
    (h : IsWordOf (.command (commandWord (BitVec.ofNat 3 k) (selOf w) (immOf w))) i) : IsWordOf (.command w) i := by
  rwa [← hop, BitVec.ofNat_toNat, BitVec.setWidth_eq, commandWord_of_fields] at h

theorem isWordOf_of_sel {op : BitVec 3} {k : Nat} (hsel : sel.toNat = k)
    (h : IsWordOf (.command (commandWord op (BitVec.ofNat 5 k) imm)) i) :
    IsWordOf (.command (commandWord op sel imm)) i := by
  rwa [← hsel, BitVec.ofNat_toNat, BitVec.setWidth_eq] at h

/-- The row of a setter whose operand is enumerated. -/
theorem enumerated_isWordOf {α : Type} {w k : Nat} {variants : List α} {code : α → BitVec w} {mk : α → Instr}
    (h : enumerated (variantOf variants code imm) mk = .ok i) (hsel : sel.toNat = k)
    (hmk : ∀ v, IsWordOf (encodeSet (BitVec.ofNat 5 k) ((code v).setWidth 16)) (mk v)) :
    IsWordOf (.command (commandWord 0 sel imm)) i := by
  obtain ⟨v, rfl, rfl⟩ := enumerated_ok h
  exact isWordOf_of_sel hsel (hmk v)

/-- The row of a setter that clamps its operand. -/
theorem clamped_isWordOf {k : Nat} {mk : Int → Instr} (h : (.ok (mk imm.toInt) : Except DecodeError Instr) = .ok i)
    (hsel : sel.toNat = k) (hmk : ∀ raw, fitsImm raw = true →
      IsWordOf (encodeSet (BitVec.ofNat 5 k) (BitVec.ofInt 16 raw)) (mk raw)) :
    IsWordOf (.command (commandWord 0 sel imm)) i := by
  cases h
  have word := hmk imm.toInt (fitsImm_toInt imm)
  rw [BitVec.ofInt_toInt] at word
  exact isWordOf_of_sel hsel word

/-- `h_n` is the row of field id `n - 1`: three are clamped, the last is no field. -/
theorem decodeSet_isWordOf (h : decodeSet sel imm = .ok i) : IsWordOf (.command (commandWord 0 sel imm)) i := by
  unfold decodeSet at h
  split at h <;> rename_i hsel
  case h_2 | h_19 | h_24 => exact clamped_isWordOf h hsel fun _ hfits => ⟨hfits, rfl⟩
  case h_31 => cases h
  all_goals exact enumerated_isWordOf h hsel fun _ => ⟨rfl, rfl⟩

/-- A word without operand has the word of its format. -/
theorem decodeNone_isWordOf {op : BitVec 3} {j : Instr} (hj : IsWordOf (.command (commandWord op 0 0)) j)
    (h : decodeNone sel imm j = .ok i) : IsWordOf (.command (commandWord op sel imm)) i := by
  unfold decodeNone at h
  split_ifs at h with hsel himm
  rw [not_not] at hsel himm
  cases h
  rwa [hsel, himm]

theorem decodeGetb_isWordOf (h : decodeGetb sel imm = .ok i) : IsWordOf (.command (commandWord 1 sel imm)) i := by
  unfold decodeGetb at h
  split_ifs at h with himm
  rw [not_not] at himm
  subst himm
  split at h <;> cases h <;> rename_i hsel <;> exact isWordOf_of_sel hsel ⟨rfl, rfl⟩

theorem decodeRdreg_isWordOf (h : decodeRdreg sel imm = .ok i) : IsWordOf (.command (commandWord 2 sel imm)) i := by
  unfold decodeRdreg at h
  split_ifs at h with himm
  rw [not_not] at himm
  subst himm
  split at h <;> cases h
  next a ha => exact ⟨rfl, by rw [encode, RegAddr.ofNumber_some ha, BitVec.ofNat_toNat, BitVec.setWidth_eq]⟩

theorem decodeWrerr_isWordOf (h : decodeWrerr sel imm = .ok i) : IsWordOf (.command (commandWord 3 sel imm)) i := by
  unfold decodeWrerr at h
  split_ifs at h with hsel
  rw [not_not] at hsel
  subst hsel
  split at h <;> cases h
  next c hc => exact ⟨rfl, by rw [encode, variantOf_some hc]⟩

theorem decodeCommand_isWordOf {w : CommandWord} (h : decodeCommand w = .ok i) : IsWordOf (.command w) i := by
  unfold decodeCommand at h
  split at h <;> rename_i hop
  · exact isWordOf_of_op hop (decodeSet_isWordOf h)
  · exact isWordOf_of_op hop (decodeGetb_isWordOf h)
  · exact isWordOf_of_op hop (decodeRdreg_isWordOf h)
  · exact isWordOf_of_op hop (decodeWrerr_isWordOf h)
  · exact isWordOf_of_op hop (decodeNone_isWordOf ⟨rfl, rfl⟩ h)
  · exact isWordOf_of_op hop (decodeNone_isWordOf ⟨rfl, rfl⟩ h)
  · exact isWordOf_of_op hop (decodeNone_isWordOf ⟨rfl, rfl⟩ h)
  · cases h

theorem decodeFrame_isWordOf {f : FrameWord} (h : decodeFrame f = .ok i) : IsWordOf (.frame f) i := by
  rw [← frameWord_of_bytes f]
  obtain ⟨a, rfl, hsends, haddr⟩ | ⟨a, rfl, hfiller, haddr⟩ := decodeFrame_ok h
  · rw [← writeAddress_toNat a (txData f)] at haddr
    exact ⟨hsends, by rw [BitVec.eq_of_toNat_eq haddr]; rfl⟩
  · rw [← readAddress_toNat] at haddr
    exact ⟨rfl, by rw [BitVec.eq_of_toNat_eq haddr, hfiller]; rfl⟩
end

end Sys2Proof

namespace Sys2Proof.Machine

/-! ### The list of refused words -/

section
variable (sel : BitVec 5) (imm : BitVec 16)

/-- `h_n` is the row of field id `n - 1`, grouped by the last listed code as R86 groups them. -/
theorem decodeSet_error_iff : (∃ e, decodeSet sel imm = .error e) ↔
    29 < sel.toNat ∨ (sel.toNat ∈ [0, 2, 3, 15, 19, 25] ∧ 7 < imm.toNat) ∨ (sel.toNat = 10 ∧ 2 < imm.toNat)
      ∨ (sel.toNat ∈ [27, 29] ∧ 3 < imm.toNat)
      ∨ (sel.toNat ∈ [4, 5, 6, 7, 8, 9, 11, 12, 13, 14, 16, 17, 20, 21, 22, 24, 26, 28] ∧ 1 < imm.toNat) := by
  unfold decodeSet
  split <;> rename_i hsel
  case h_2 | h_19 | h_24 => simp [hsel]
  case h_1 | h_3 | h_4 | h_16 | h_20 | h_26 =>
    rw [enumerated_error_iff (last := 7) rfl (by decide)]
    simp [hsel]
  case h_11 =>
    rw [enumerated_error_iff (last := 2) rfl (by decide)]
    simp [hsel]
  case h_28 | h_30 =>
    rw [enumerated_error_iff (last := 3) rfl (by decide)]
    simp [hsel]
  case h_31 =>
    have above : 29 < sel.toNat := by simp only [imp_false] at *; omega
    simp [above]
  all_goals
    rw [enumerated_error_iff (last := 1) rfl (by decide)]
    simp [hsel]

theorem decodeGetb_error_iff :
    (∃ e, decodeGetb sel imm = .error e) ↔ imm ≠ 0 ∨ sel.toNat = 7 ∨ 9 < sel.toNat := by
  unfold decodeGetb
  split_ifs with himm
  · exact iff_of_true ⟨_, rfl⟩ (.inl himm)
  · rw [not_not] at himm
    split <;> rename_i hsel
    case h_11 =>
      have above : 9 < sel.toNat := by simp only [imp_false] at *; omega
      simp [above]
    all_goals simp [himm, hsel]

theorem decodeRdreg_error_iff : (∃ e, decodeRdreg sel imm = .error e) ↔ imm ≠ 0 ∨ 9 < sel.toNat := by
  unfold decodeRdreg
  split_ifs with himm
  · exact iff_of_true ⟨_, rfl⟩ (.inl himm)
  · rw [not_not] at himm
    rw [← RegAddr.ofNumber_eq_none_iff]
    cases RegAddr.ofNumber sel.toNat <;> simp [himm]

theorem decodeWrerr_error_iff : (∃ e, decodeWrerr sel imm = .error e) ↔ sel ≠ 0 ∨ 3 < imm.toNat := by
  unfold decodeWrerr
  split_ifs with hsel
  · exact iff_of_true ⟨_, rfl⟩ (.inl hsel)
  · rw [not_not] at hsel
    rw [← Nat.succ_le_iff,
      ← variantOf_eq_none_iff (variants := ErrControl.variants) (code := ErrControl.code) rfl (by decide)]
    cases variantOf ErrControl.variants ErrControl.code imm <;> simp [hsel]

theorem decodeNone_error_iff (i : Instr) :
    (∃ e, decodeNone sel imm i = .error e) ↔ sel ≠ 0 ∨ imm ≠ 0 := by
  unfold decodeNone
  split_ifs with hsel himm
  · exact iff_of_true ⟨_, rfl⟩ (.inl hsel)
  · exact iff_of_true ⟨_, rfl⟩ (.inr himm)
  · exact iff_of_false nofun (not_or_intro hsel himm)
end

/-- The decoder refuses exactly the words on the list of R86, format by format. -/
theorem decodeCommand_error_iff (w : CommandWord) : (∃ e, decodeCommand w = .error e) ↔ IllegalWord w := by
  simp only [IllegalWord, ← opOf_toNat, ← selOf_toNat, ← immOf_toNat]
  unfold decodeCommand
  split <;> rename_i hop
  · rw [decodeSet_error_iff]
    simp [hop]
  · rw [decodeGetb_error_iff]
    simp [hop, ← BitVec.toNat_inj, or_comm]
  · rw [decodeRdreg_error_iff]
    simp [hop, ← BitVec.toNat_inj, or_comm]
  · rw [decodeWrerr_error_iff]
    simp [hop, ← BitVec.toNat_inj]
  · rw [decodeNone_error_iff]
    simp [hop, ← BitVec.toNat_inj]
  · rw [decodeNone_error_iff]
    simp [hop, ← BitVec.toNat_inj]
  · rw [decodeNone_error_iff]
    simp [hop, ← BitVec.toNat_inj]
  · have op : (opOf w).toNat = 7 := by simp only [imp_false] at *; omega
    simp [op]

/-! ### The statements -/

/-- Settles O1: an enumerated operand is found again in its code table (`decode_enumerated`), a clamped one that fits
is the sign extension of its `imm` (`decode_clamped`), the bytes of a frame are the decoder's (`decodeFrame_write`),
and the other words carry no more than one of a few names. -/
theorem decodeOfEncodeIsIdentity : Obligations.DecodeOfEncodeIsIdentity := by
  intro i hi
  cases i with
  | setTxPulses raw => exact decode_clamped (fun _ => rfl) hi
  | setTxPulseShiftPosition raw => exact decode_clamped (fun _ => rfl) hi
  | setTofValue raw => exact decode_clamped (fun _ => rfl) hi
  | setTxFrequencyDivider v => exact decode_enumerated (fun _ => rfl) v.variantOf_code
  | setMeasurementCycles v => exact decode_enumerated (fun _ => rfl) v.variantOf_code
  | setReceiveEvents v => exact decode_enumerated (fun _ => rfl) v.variantOf_code
  | setVoltageReference v => exact decode_enumerated (fun _ => rfl) v.variantOf_code
  | setMeasurementMode v => exact decode_enumerated (fun _ => rfl) v.variantOf_code
  | setDamping v => exact decode_enumerated (fun _ => rfl) v.variantOf_code
  | setChannelSwap v => exact decode_enumerated (fun _ => rfl) v.variantOf_code
  | setExternalChannelSelect v => exact decode_enumerated (fun _ => rfl) v.variantOf_code
  | setChannelSelect v => exact decode_enumerated (fun _ => rfl) v.variantOf_code
  | setTofMeasMode v => exact decode_enumerated (fun _ => rfl) v.variantOf_code
  | setTempMode v => exact decode_enumerated (fun _ => rfl) v.variantOf_code
  | setTempRtdSelect v => exact decode_enumerated (fun _ => rfl) v.variantOf_code
  | setTempClockDivider v => exact decode_enumerated (fun _ => rfl) v.variantOf_code
  | setPowerBlanking v => exact decode_enumerated (fun _ => rfl) v.variantOf_code
  | setEchoQualificationThreshold v => exact decode_enumerated (fun _ => rfl) v.variantOf_code
  | setReceiveMode v => exact decode_enumerated (fun _ => rfl) v.variantOf_code
  | setTriggerEdgePolarity v => exact decode_enumerated (fun _ => rfl) v.variantOf_code
  | setPgaGain v => exact decode_enumerated (fun _ => rfl) v.variantOf_code
  | setPgaControl v => exact decode_enumerated (fun _ => rfl) v.variantOf_code
  | setLnaControl v => exact decode_enumerated (fun _ => rfl) v.variantOf_code
  | setLnaFeedback v => exact decode_enumerated (fun _ => rfl) v.variantOf_code
  | setForceShortTof v => exact decode_enumerated (fun _ => rfl) v.variantOf_code
  | setShortTofBlankPeriod v => exact decode_enumerated (fun _ => rfl) v.variantOf_code
  | setEchoTimeout v => exact decode_enumerated (fun _ => rfl) v.variantOf_code
  | setTofTimeoutControl v => exact decode_enumerated (fun _ => rfl) v.variantOf_code
  | setClockInDivider v => exact decode_enumerated (fun _ => rfl) v.variantOf_code
  | setAutoZeroPeriod v => exact decode_enumerated (fun _ => rfl) v.variantOf_code
  | rdreg a => cases a <;> rfl
  | wrerr c => cases c <;> rfl
  | frameW a v =>
    exact decodeFrame_write (by rw [txAddress_frameWord, writeAddress_toNat]) (txData_frameWord _) hi
  | frameR a => exact decodeFrame_read (by rw [txAddress_frameWord, readAddress_toNat]) (txData_frameWord _)
  | _ => rfl

/-- Settles O2: `decodeCommand_isWordOf` and `decodeFrame_isWordOf`. -/
theorem encodeOfDecodeIsIdentity : Obligations.EncodeOfDecodeIsIdentity := by
  intro w i h
  have word : IsWordOf w i := by
    cases w with
    | command w => exact decodeCommand_isWordOf h
    | frame f => exact decodeFrame_isWordOf h
  exact ⟨word.wellFormed, word.encode⟩

/-- Settles O3: the refused words are the list (`decodeCommand_error_iff`), and the step that takes a refused word
only presents its record (`runWord_illegal`). -/
theorem illegalWordsAreTheListAndChangeNothing : Obligations.IllegalWordsAreTheListAndChangeNothing := by
  refine ⟨decodeCommand_error_iff, fun s w rest hbusy hprim hport hw => ?_⟩
  obtain ⟨e, he⟩ := (decodeCommand_error_iff w).mpr hw
  calc step s = runWord w { s with port := rest } := step_word hbusy hprim hport
    _ = .next (State.present { s with port := rest } Result.refusedWord) := runWord_illegal he
    _ = .next { s with port := rest, result := some illegalRecord } := by rw [State.present, hbusy]; rfl

/-- Settles O6: the word of a primitive is a frame, and a command word is the word of what it decodes to
(`decodeCommand_isWordOf`). -/
theorem noCommandWordSpellsAPrimitive : Obligations.NoCommandWordSpellsAPrimitive := by
  intro w i h
  have word : encode i = .command w := (decodeCommand_isWordOf h).encode
  constructor
  · rintro a v rfl
    cases word
  · rintro a rfl
    cases word

/-- A frame is the write frame with its address and data bytes read as one number (spec R64). -/
theorem frame_eq_write_iff (f : FrameWord) (a : RegAddr) (v : Byte) :
    f.toNat = (64 + a.number) * 256 + v.toNat ↔ (txAddress f).toNat = 64 + a.number ∧ txData f = v := by
  have := v.isLt
  rw [← BitVec.toNat_inj, txAddress_toNat, txData_toNat]
  omega

theorem frame_eq_read_iff (f : FrameWord) (a : RegAddr) :
    f.toNat = a.number * 256 + 255 ↔ (txAddress f).toNat = a.number ∧ txData f = filler := by
  have : filler.toNat = 255 := rfl
  rw [← BitVec.toNat_inj, txAddress_toNat, txData_toNat]
  omega

/-- Settles O59: the decoder on the frames of the two rows (`decodeFrame_write`, `decodeFrame_read`) and on every frame
(`decodeFrame_ok`); the step drops a frame that decodes to nothing (`runFrame_dropped`). -/
theorem framesDecodeAsTheirRows : Obligations.FramesDecodeAsTheirRows := by
  refine ⟨fun f a v => ?write, fun f a => ?read, fun f i h => ?only, fun s f e hbusy hprim he => ?dropped⟩
  case write =>
    rw [frame_eq_write_iff]
    constructor
    · intro h
      obtain ⟨b, hb, hsends, haddr⟩ | ⟨b, hb, _⟩ := decodeFrame_ok h <;> cases hb
      exact ⟨⟨haddr, rfl⟩, hsends⟩
    · rintro ⟨⟨haddr, hdata⟩, hsends⟩
      exact decodeFrame_write haddr hdata hsends
  case read =>
    rw [frame_eq_read_iff]
    constructor
    · intro h
      obtain ⟨b, hb, _⟩ | ⟨b, hb, hdata, haddr⟩ := decodeFrame_ok h <;> cases hb
      exact ⟨haddr, hdata⟩
    · rintro ⟨haddr, hdata⟩
      exact decodeFrame_read haddr hdata
  case only =>
    obtain ⟨a, hi, _⟩ | ⟨a, hi, _⟩ := decodeFrame_ok h
    · exact .inl ⟨a, _, hi⟩
    · exact .inr ⟨a, hi⟩
  case dropped => exact (step_primitive hbusy hprim).trans (runFrame_dropped he)

/-- Settles O4: the decoder, run on each word. -/
theorem wordsDecodeAsTheTableSays : Obligations.WordsDecodeAsTheTableSays :=
  ⟨rfl, rfl, rfl, rfl, rfl, rfl, rfl, rfl, rfl, rfl, rfl, rfl, rfl⟩

/-- Settles O5: the fields of a command word are those it was made of (`opOf_commandWord` and the other two); a
control code fills the two bits it is placed in. -/
theorem controlAndPlainFormats : Obligations.ControlAndPlainFormats := by
  refine ⟨fun c => ⟨_, rfl, opOf_commandWord .., selOf_commandWord .., ?_⟩,
    ⟨_, rfl, opOf_commandWord .., selOf_commandWord .., immOf_commandWord ..⟩,
    ⟨_, rfl, opOf_commandWord .., selOf_commandWord .., immOf_commandWord ..⟩,
    ⟨_, rfl, opOf_commandWord .., selOf_commandWord .., immOf_commandWord ..⟩⟩
  rw [immOf_commandWord]
  cases c <;> exact ⟨rfl, rfl⟩

/-- Settles O7: the assembler, run on each line. -/
theorem writtenCommandsAssemble : Obligations.WrittenCommandsAssemble := by
  unfold Obligations.WrittenCommandsAssemble
  decide

end Sys2Proof.Machine
end

section
/-! The clamped operands (spec R81): saturation, in the integers. -/

namespace Sys2Proof.Machine

theorem clamp_of_lt {v lo hi : Int} (h : v < lo) : clamp v lo hi = lo := if_pos h

theorem clamp_of_gt {v lo hi : Int} (hbounds : lo ≤ hi) (h : hi < v) : clamp v lo hi = hi := by
  rw [clamp, if_neg (by omega), if_pos h]

theorem clamp_of_mem {v lo hi : Int} (hlo : lo ≤ v) (hhi : v ≤ hi) : clamp v lo hi = v := by
  rw [clamp, if_neg (by omega), if_neg (by omega)]

/-- A register of `w` bits that holds every number up to `hi` stores a saturated operand without wrapping. -/
theorem ofNat_clamp_toNat {w hi : Nat} (hw : hi < 2 ^ w) (raw : Int) :
    ((BitVec.ofNat w (clamp raw 0 hi).toNat).toNat : Int) = clamp raw 0 hi := by
  have range : 0 ≤ clamp raw 0 hi ∧ clamp raw 0 hi ≤ hi := by
    unfold clamp
    split_ifs <;> omega
  rw [BitVec.toNat_ofNat, Nat.mod_eq_of_lt (by omega)]
  omega

/-- What a saturated register reads as, in the three ranges of its operand. -/
theorem saturates_of_eq_clamp {n hi : Nat} {raw : Int} (hn : (n : Int) = clamp raw 0 hi) :
    (raw < 0 → n = 0) ∧ (hi < raw → n = hi) ∧ (0 ≤ raw → raw ≤ hi → (n : Int) = raw) := by
  refine ⟨fun h => ?_, fun h => ?_, fun hlo hhi => ?_⟩
  · rw [clamp_of_lt h] at hn
    exact_mod_cast hn
  · rw [clamp_of_gt (Int.natCast_nonneg hi) h] at hn
    exact_mod_cast hn
  · rw [hn, clamp_of_mem hlo hhi]

theorem pulseCount_saturates (raw : Int) : (raw < 0 → (pulseCount raw).toNat = 0)
    ∧ (31 < raw → (pulseCount raw).toNat = 31) ∧ (0 ≤ raw → raw ≤ 31 → ((pulseCount raw).toNat : Int) = raw) :=
  saturates_of_eq_clamp (hi := 31) (ofNat_clamp_toNat (by decide) raw)

theorem tofNumber_saturates (raw : Int) : (raw < 0 → (tofNumber raw).toNat = 0)
    ∧ (1023 < raw → (tofNumber raw).toNat = 1023)
    ∧ (0 ≤ raw → raw ≤ 1023 → ((tofNumber raw).toNat : Int) = raw) :=
  saturates_of_eq_clamp (hi := 1023) (ofNat_clamp_toNat (by decide) raw)

/-- Settles O23: the three setters store a saturated number (`pulseCount_saturates`, `tofNumber_saturates`), and `imm`
0xFFFF is read as -1 by the decoder. -/
theorem clampedOperandsSaturate : Obligations.ClampedOperandsSaturate :=
  ⟨fun _ raw => ⟨_, rfl, rfl, pulseCount_saturates raw⟩, fun _ raw => ⟨_, rfl, rfl, pulseCount_saturates raw⟩,
    fun _ raw => ⟨_, rfl, rfl, tofNumber_saturates raw⟩, rfl, rfl, rfl⟩

end Sys2Proof.Machine
end

section
/-! The field map (spec R84, R153) and the bits it leaves out (R26, R85). -/

namespace Sys2Proof.Machine

/-- Every field register is a number of its width. -/
theorem value_lt (m : Mirror) (f : FieldId) : m.value f < 2 ^ f.width := by
  cases f <;> exact BitVec.isLt _

/-- A contribution lies inside its mask, whatever the field map. -/
theorem contribution_and_mask (p : Placement) (value : FieldId → Nat) :
    p.contribution value &&& p.mask = p.contribution value := by
  rw [Placement.contribution, Placement.mask, ← Nat.shiftLeft_and_distrib, Nat.and_two_pow_sub_one_eq_mod,
    Nat.mod_mod]

/-- A contribution does not reach a mask that is disjoint from its own. -/
theorem contribution_and_disjoint {p q : Placement} (value : FieldId → Nat) (h : p.mask &&& q.mask = 0) :
    p.contribution value &&& q.mask = 0 := by
  rw [← contribution_and_mask, Nat.and_assoc, h, Nat.and_zero]

theorem fieldMap_fits : ∀ p ∈ fieldMap, p.mask < 256 := by decide

/-- The placements of one register do not overlap (spec R153): the rows of the field map, two by two. -/
theorem fieldMap_disjoint : ∀ p ∈ fieldMap, ∀ q ∈ fieldMap, p.reg = q.reg → p ≠ q → p.mask &&& q.mask = 0 := by
  decide

/-- Settles O31: a field fits its width (`value_lt`), a contribution lies inside its own mask
(`contribution_and_mask`), and the masks of one register are disjoint (`fieldMap_disjoint`). -/
theorem contributionsFitTheirFields : Obligations.ContributionsFitTheirFields := by
  refine ⟨value_lt, fun m p hp => ⟨contribution_and_mask p m.value, ?_⟩, fun p hp q hq hreg hne => ?_⟩
  · calc p.contribution m.value = p.contribution m.value &&& p.mask := (contribution_and_mask p m.value).symm
      _ ≤ p.mask := Nat.and_le_right
      _ < 256 := fieldMap_fits p hp
  · have disjoint : p.mask &&& q.mask = 0 := fieldMap_disjoint p hp q hq hreg hne
    exact ⟨disjoint, fun m => contribution_and_disjoint m.value disjoint⟩

/-! ### The bits no field occupies -/

/-- Every image is a byte that may be sent to its register (`writeOrder_sends`). -/
theorem imageOf_sends {a : RegAddr} {img : Mirror → Byte} (h : imageOf a = some img) (m : Mirror) :
    a.sends (img m) = true := by
  have listed : (a, img) ∈ writeOrder := by
    cases a <;> cases h <;> simp [writeOrder]
  exact writeOrder_sends m _ listed

/-- Masking a range of bits keeps the number those bits spell, in its place. -/
theorem and_shifted_mask (x i n : Nat) : x &&& (2 ^ n - 1) <<< i = (x >>> i % 2 ^ n) <<< i := by
  apply Nat.eq_of_testBit_eq
  intro k
  by_cases hk : i ≤ k
  · simp [Nat.testBit_shiftLeft, Nat.testBit_mod_two_pow, hk, Bool.and_comm]
  · simp [Nat.testBit_shiftLeft, hk]

theorem and_mask_eq_zero {v : Byte} {i n : Nat} (h : v.extractLsb' i n = 0) : v.toNat &&& (2 ^ n - 1) <<< i = 0 := by
  have bits : v.toNat >>> i % 2 ^ n = 0 := by
    rw [← BitVec.extractLsb'_toNat, h, BitVec.ofNat_eq_ofNat, BitVec.toNat_zero]
  rw [and_shifted_mask, bits, Nat.zero_shiftLeft]

/-- The reserved bits of an image are 0: they are the bits the unit never sends (spec R26, R85). -/
theorem image_and_reservedMask {a : RegAddr} {img : Mirror → Byte} (h : imageOf a = some img) (m : Mirror) :
    (img m).toNat &&& reservedMask a = 0 := by
  have hsends := imageOf_sends h m
  cases a
  case errFlag => cases h
  case config0 | config2 | tof1 | tof0 => exact Nat.and_zero _
  all_goals exact and_mask_eq_zero (eq_of_beq hsends)

theorem config2_code_ne_three {v : Byte} (h : RegAddr.config2.sends v = true) : v.extractLsb' 0 2 ≠ 3 := by
  simpa [RegAddr.sends] using h

/-- Settles O32: what is packed has its reserved bits 0 (`image_and_reservedMask`) and no code 3
(`config2_code_ne_three`), because it may be sent; the three bits the status unpack reads are bits 2:0. -/
theorem reservedBitsAndUnlistedCode : Obligations.ReservedBitsAndUnlistedCode := by
  refine ⟨fun m a img h => image_and_reservedMask h m, fun b => ?_, fun m => ⟨?_, ?_⟩⟩
  · simp [unpackStatus]
  · cases h : m.tofMeasMode <;> simp [Mirror.value, h, TofMeasMode.code]
  · exact config2_code_ne_three (imageOf_sends rfl m)

end Sys2Proof.Machine
end

section
/-! The bytes a write frame may carry (spec R64, R66): every one of them is an image or a control code. -/

namespace Sys2Proof.Machine

/-! ### Cutting a byte into fields and packing them again -/

theorem getLsbD_place {w o k : Nat} (v : BitVec w) (hk : k < 8) :
    (place v o).getLsbD k = (decide (o ≤ k) && v.getLsbD (k - o)) := by
  by_cases ho : o ≤ k
  · simp [place, hk, ho]
  · simp [place, show k < o by omega]

/-- Two ranges of a byte that lie side by side are placed as the one range they form. -/
theorem place_or_place {v : Byte} {o o' w w' : Nat} (ho : o' = o + w) :
    place (v.extractLsb' o' w') o' ||| place (v.extractLsb' o w) o = place (v.extractLsb' o (w + w')) o := by
  subst ho
  apply BitVec.eq_of_getLsbD_eq
  intro k hk
  simp only [BitVec.getLsbD_or, getLsbD_place _ hk, BitVec.getLsbD_extractLsb']
  rcases lt_or_ge k o with below | above
  · simp [show ¬ o ≤ k by omega, show ¬ o + w ≤ k by omega]
  rcases lt_or_ge k (o + w) with low | high
  · simp [above, show ¬ o + w ≤ k by omega, show k - o < w by omega, show k - o < w + w' by omega]
  · have range : k - (o + w) < w' ↔ k - o < w + w' := by omega
    simp [above, high, range, show ¬ k - o < w by omega]

/-- A byte is its low bits, where the bits above them are 0. -/
theorem place_low {v : Byte} {n m : Nat} (hm : n + m = 8) (h : v.extractLsb' n m = 0) :
    place (v.extractLsb' 0 n) 0 = v := by
  apply BitVec.eq_of_getLsbD_eq
  intro k hk
  rw [getLsbD_place _ hk, BitVec.getLsbD_extractLsb']
  by_cases low : k < n
  · simp [low]
  · have zero : v.getLsbD k = false := by
      have bit := congrArg (BitVec.getLsbD · (k - n)) h
      simpa [show k - n < m by omega, show n + (k - n) = k by omega] using bit
    simp [low, zero]

theorem place_whole (v : Byte) : place (v.extractLsb' 0 8) 0 = v := by
  rw [BitVec.extractLsb'_eq_self]
  simp [place]

theorem tofHigh_append (h : BitVec 2) (l : BitVec 8) : tofHigh (h ++ l) = h :=
  BitVec.extractLsb'_append_eq_left

theorem tofLow_append (h : BitVec 2) (l : BitVec 8) : tofLow (h ++ l) = l :=
  BitVec.extractLsb'_append_eq_right

/-- A table of all the codes below `n` has a variant for each of them. -/
theorem exists_code {α : Type} {w n : Nat} (variants : List α) (code : α → BitVec w)
    (htable : variants.map (fun v => (code v).toNat) = List.range n) (c : BitVec w) (hc : c.toNat < n) :
    ∃ v, code v = c := by
  obtain ⟨v, _, hv⟩ := exists_variant_of_lt htable hc
  exact ⟨v, BitVec.eq_of_toNat_eq hv⟩

theorem code_surjective {α : Type} {w : Nat} (variants : List α) (code : α → BitVec w)
    (htable : variants.map (fun v => (code v).toNat) = List.range (2 ^ w)) : Function.Surjective code :=
  fun c => exists_code variants code htable c c.isLt

/-! ### Every byte without reserved bits is an image

The field values are those the byte is cut into, at the offsets of R141 to R149. -/

theorem exists_packConfig0 (v : Byte) : ∃ m, packConfig0 m = v := by
  obtain ⟨divider, hdivider⟩ :=
    code_surjective TxFrequencyDivider.variants TxFrequencyDivider.code rfl (v.extractLsb' 5 3)
  use { resetFields with txFrequencyDivider := divider, txPulses := v.extractLsb' 0 5 }
  simp only [packConfig0, hdivider, place_or_place]
  exact place_whole v

theorem exists_packConfig1 {v : Byte} (h : v.extractLsb' 6 2 = 0) : ∃ m, packConfig1 m = v := by
  obtain ⟨cycles, hcycles⟩ :=
    code_surjective MeasurementCycles.variants MeasurementCycles.code rfl (v.extractLsb' 3 3)
  obtain ⟨events, hevents⟩ := code_surjective ReceiveEvents.variants ReceiveEvents.code rfl (v.extractLsb' 0 3)
  use { resetFields with measurementCycles := cycles, receiveEvents := events }
  simp only [packConfig1, hcycles, hevents, place_or_place]
  exact place_low rfl h

theorem exists_packConfig2 {v : Byte} (h : v.extractLsb' 0 2 ≠ 3) : ∃ m, packConfig2 m = v := by
  have listed : (v.extractLsb' 0 2).toNat < 3 := by
    have := (v.extractLsb' 0 2).isLt
    have : (v.extractLsb' 0 2).toNat ≠ 3 := fun heq => h (BitVec.eq_of_toNat_eq heq)
    omega
  obtain ⟨reference, href⟩ :=
    code_surjective VoltageReference.variants VoltageReference.code rfl (v.extractLsb' 7 1)
  obtain ⟨mode, hmode⟩ := code_surjective MeasurementMode.variants MeasurementMode.code rfl (v.extractLsb' 6 1)
  obtain ⟨damping, hdamping⟩ := code_surjective Switch.variants Switch.code rfl (v.extractLsb' 5 1)
  obtain ⟨swap, hswap⟩ := code_surjective Switch.variants Switch.code rfl (v.extractLsb' 4 1)
  obtain ⟨external, hexternal⟩ := code_surjective Switch.variants Switch.code rfl (v.extractLsb' 3 1)
  obtain ⟨channel, hchannel⟩ := code_surjective ChannelSelect.variants ChannelSelect.code rfl (v.extractLsb' 2 1)
  obtain ⟨tof, htof⟩ := exists_code TofMeasMode.variants TofMeasMode.code rfl (v.extractLsb' 0 2) listed
  use { resetFields with
    voltageReference := reference, measurementMode := mode, damping := damping, channelSwap := swap
    externalChannelSelect := external, channelSelect := channel, tofMeasMode := tof }
  simp only [packConfig2, href, hmode, hdamping, hswap, hexternal, hchannel, htof, place_or_place]
  exact place_whole v

theorem exists_packConfig3 {v : Byte} (h : v.extractLsb' 7 1 = 0) : ∃ m, packConfig3 m = v := by
  obtain ⟨mode, hmode⟩ := code_surjective TempMode.variants TempMode.code rfl (v.extractLsb' 6 1)
  obtain ⟨rtd, hrtd⟩ := code_surjective TempRtdSelect.variants TempRtdSelect.code rfl (v.extractLsb' 5 1)
  obtain ⟨clock, hclock⟩ :=
    code_surjective TempClockDivider.variants TempClockDivider.code rfl (v.extractLsb' 4 1)
  obtain ⟨blanking, hblanking⟩ := code_surjective Switch.variants Switch.code rfl (v.extractLsb' 3 1)
  obtain ⟨threshold, hthreshold⟩ :=
    code_surjective EchoThreshold.variants EchoThreshold.code rfl (v.extractLsb' 0 3)
  use { resetFields with
    tempMode := mode, tempRtdSelect := rtd, tempClockDivider := clock, powerBlanking := blanking
    echoQualificationThreshold := threshold }
  simp only [packConfig3, hmode, hrtd, hclock, hblanking, hthreshold, place_or_place]
  exact place_low rfl h

theorem exists_packConfig4 {v : Byte} (h : v.extractLsb' 7 1 = 0) : ∃ m, packConfig4 m = v := by
  obtain ⟨mode, hmode⟩ := code_surjective ReceiveMode.variants ReceiveMode.code rfl (v.extractLsb' 6 1)
  obtain ⟨edge, hedge⟩ := code_surjective TriggerEdge.variants TriggerEdge.code rfl (v.extractLsb' 5 1)
  use { resetFields with receiveMode := mode, triggerEdgePolarity := edge, txPulseShiftPosition := v.extractLsb' 0 5 }
  simp only [packConfig4, hmode, hedge, place_or_place]
  exact place_low rfl h

theorem exists_packTof1 (v : Byte) : ∃ m, packTof1 m = v := by
  obtain ⟨gain, hgain⟩ := code_surjective PgaGain.variants PgaGain.code rfl (v.extractLsb' 5 3)
  obtain ⟨pga, hpga⟩ := code_surjective AmpControl.variants AmpControl.code rfl (v.extractLsb' 4 1)
  obtain ⟨lna, hlna⟩ := code_surjective AmpControl.variants AmpControl.code rfl (v.extractLsb' 3 1)
  obtain ⟨feedback, hfeedback⟩ := code_surjective LnaFeedback.variants LnaFeedback.code rfl (v.extractLsb' 2 1)
  use { resetFields with
    pgaGain := gain, pgaControl := pga, lnaControl := lna, lnaFeedback := feedback
    tofValue := v.extractLsb' 0 2 ++ (0 : BitVec 8) }
  simp only [packTof1, hgain, hpga, hlna, hfeedback, tofHigh_append, place_or_place]
  exact place_whole v

theorem exists_packTof0 (v : Byte) : ∃ m, packTof0 m = v :=
  ⟨{ resetFields with tofValue := (0 : BitVec 2) ++ v }, tofLow_append 0 v⟩

theorem exists_packTimeOut {v : Byte} (h : v.extractLsb' 7 1 = 0) : ∃ m, packTimeOut m = v := by
  obtain ⟨short, hshort⟩ := code_surjective Switch.variants Switch.code rfl (v.extractLsb' 6 1)
  obtain ⟨blank, hblank⟩ :=
    code_surjective ShortTofBlankPeriod.variants ShortTofBlankPeriod.code rfl (v.extractLsb' 3 3)
  obtain ⟨echo, hecho⟩ := code_surjective EchoTimeout.variants EchoTimeout.code rfl (v.extractLsb' 2 1)
  obtain ⟨control, hcontrol⟩ :=
    code_surjective TofTimeoutControl.variants TofTimeoutControl.code rfl (v.extractLsb' 0 2)
  use { resetFields with
    forceShortTof := short, shortTofBlankPeriod := blank, echoTimeout := echo, tofTimeoutControl := control }
  simp only [packTimeOut, hshort, hblank, hecho, hcontrol, place_or_place]
  exact place_low rfl h

theorem exists_packClockRate {v : Byte} (h : v.extractLsb' 3 5 = 0) : ∃ m, packClockRate m = v := by
  obtain ⟨divider, hdivider⟩ :=
    code_surjective ClockInDivider.variants ClockInDivider.code rfl (v.extractLsb' 2 1)
  obtain ⟨period, hperiod⟩ := code_surjective AutoZeroPeriod.variants AutoZeroPeriod.code rfl (v.extractLsb' 0 2)
  use { resetFields with clockInDivider := divider, autoZeroPeriod := period }
  simp only [packClockRate, hdivider, hperiod, place_or_place]
  exact place_low rfl h

/-- Where ErrFlag's bits 7:2 are 0, the byte is a control code (spec R23). -/
theorem exists_errControl {v : Byte} (h : v.extractLsb' 2 6 = 0) : ∃ c : ErrControl, c.code.setWidth 8 = v := by
  obtain ⟨c, hc⟩ := code_surjective ErrControl.variants ErrControl.code rfl (v.extractLsb' 0 2)
  use c
  calc c.code.setWidth 8 = place (v.extractLsb' 0 2) 0 := by simp [place, hc]
    _ = v := place_low rfl h

/-- A byte that may be sent to a register with an image is an image (spec R64). -/
theorem exists_image_of_sends {a : RegAddr} {v : Byte} (ha : a ≠ .errFlag) (h : a.sends v = true) :
    ∃ (m : Mirror) (img : Mirror → Byte), imageOf a = some img ∧ img m = v := by
  have image {img : Mirror → Byte} (himg : imageOf a = some img) :
      (∃ m, img m = v) → ∃ (m : Mirror) (img : Mirror → Byte), imageOf a = some img ∧ img m = v :=
    fun ⟨m, hm⟩ => ⟨m, img, himg, hm⟩
  cases a with
  | config0 => exact image rfl (exists_packConfig0 v)
  | config1 => exact image rfl (exists_packConfig1 (eq_of_beq h))
  | config2 => exact image rfl (exists_packConfig2 (config2_code_ne_three h))
  | config3 => exact image rfl (exists_packConfig3 (eq_of_beq h))
  | config4 => exact image rfl (exists_packConfig4 (eq_of_beq h))
  | tof1 => exact image rfl (exists_packTof1 v)
  | tof0 => exact image rfl (exists_packTof0 v)
  | errFlag => exact absurd rfl ha
  | timeOut => exact image rfl (exists_packTimeOut (eq_of_beq h))
  | clockRate => exact image rfl (exists_packClockRate (eq_of_beq h))

/-- Settles O58: a byte that may be sent is cut into field values that pack to it (`exists_image_of_sends`), or is a
code (`exists_errControl`); images and codes may be sent (`imageOf_sends`, `errFlag_sends_code`). -/
theorem sendableBytesAreTheImagesAndCodes : Obligations.SendableBytesAreTheImagesAndCodes := by
  intro a v
  constructor
  · intro h
    by_cases ha : a = .errFlag
    · subst ha
      exact .inr ⟨rfl, exists_errControl (eq_of_beq h)⟩
    · exact .inl (exists_image_of_sends ha h)
  · rintro (⟨m, img, himg, rfl⟩ | ⟨rfl, c, rfl⟩)
    · exact imageOf_sends himg m
    · exact errFlag_sends_code c

end Sys2Proof.Machine
end

section
/-! The frames a host command sends (spec R66): which calls a transaction, a composite loop and the end of a command
add to the trace. -/

namespace Sys2Proof.Machine

/-- From `s` to `t` the trace has grown by calls that all have the property `P`. -/
def GrowsBy (P : TraceEntry → Prop) (s t : State) : Prop := ∃ calls, t.trace = s.trace ++ calls ∧ ∀ e ∈ calls, P e

section
variable {P : TraceEntry → Prop} {s t u : State}

theorem growsBy_of_trace_eq (h : t.trace = s.trace) : GrowsBy P s t := ⟨[], by simp [h], by simp⟩

theorem GrowsBy.trans (hst : GrowsBy P s t) (htu : GrowsBy P t u) : GrowsBy P s u := by
  obtain ⟨calls, hcalls, hP⟩ := hst
  obtain ⟨more, hmore, hQ⟩ := htu
  exact ⟨calls ++ more, by rw [hmore, hcalls, List.append_assoc],
    fun e he => (List.mem_append.mp he).elim (hP e) (hQ e)⟩

/-- The calls of one transaction: select calls and its one transfer. -/
theorem transact_growsBy {α : Type} {get : Draw → Option (Except BusErr α)} {entry : Except BusErr α → TraceEntry}
    (hassert : ∀ r, P (.selAssert r)) (hdeassert : ∀ r, P (.selDeassert r)) (hentry : ∀ r, P (entry r)) :
    GrowsBy P s (transact (callTransfer get entry) s).2 := by
  rcases transact_cases get entry s with ⟨_, hx⟩ | ⟨e1, _, hx⟩ | ⟨_, _, hx⟩ | ⟨r2, _, _, _, hx⟩
    | ⟨r2, r3, _, _, _, hx⟩ <;> rw [hx] <;> refine ⟨_, rfl, ?_⟩ <;> simp [hassert, hdeassert, hentry]

/-- The end of a command makes no call. -/
theorem finishCommand_growsBy {α : Type} (ok : State → α → Result) {c : Course α × State} (h : GrowsBy P s c.2) :
    GrowsBy P s (finishCommand ok c) := by
  obtain ⟨_, _, hx⟩ | ⟨_, _, hx⟩ | ⟨_, hx⟩ := finishCommand_cases ok c <;> rw [hx] <;> exact h

theorem forgetBuffer_growsBy {c : Course Unit × State} (h : GrowsBy P s c.2) : GrowsBy P s (forgetBuffer c).2 := by
  obtain ⟨_, _, hx⟩ | ⟨_, hx⟩ := forgetBuffer_cases c <;> rw [hx] <;> exact h
end

/-- A call of the command `i` run at `s` sends no frame, or one that the table of R66 gives that command. -/
def ListedFrame (i : Instr) (s : State) (e : TraceEntry) : Prop :=
  match e with
  | .selAssert _ => True
  | .selDeassert _ => True
  | .write tx _ =>
    (i = .wrall ∧ tx.1 ∈ [0x40, 0x41, 0x42, 0x43, 0x44, 0x45, 0x46, 0x48, 0x49] ∧ tx ∈ writeFrames s.mirror)
      ∨ ((∃ c, i = .wrerr c) ∧ tx.1 = 0x47 ∧ tx.2.toNat ≤ 3)
  | .exchange tx _ => ((∃ a, i = .rdreg a) ∨ i = .rdall ∨ i = .rderr) ∧ tx.1.toNat ≤ 9 ∧ tx.2 = 0xFF

section
variable {i : Instr} {s t : State}

theorem wr_growsBy {a : RegAddr} {v : Byte} (h : ∀ r, ListedFrame i s (.write (writeFrame a v) r)) :
    GrowsBy (ListedFrame i s) t (wr a v t).2 := by
  rw [wr_eq]
  exact transact_growsBy (fun _ => trivial) (fun _ => trivial) h

/-- Every read frame is listed for a command that reads. -/
theorem rd_growsBy (hi : (∃ a, i = .rdreg a) ∨ i = .rdall ∨ i = .rderr) (a : RegAddr) :
    GrowsBy (ListedFrame i s) t (rd a t).2 := by
  have address : (readFrame a).1.toNat ≤ 9 := by
    rw [readAddress_toNat]
    exact Nat.le_of_lt_succ a.number_lt
  rw [rd_eq, readByte_state]
  exact transact_growsBy (fun _ => trivial) (fun _ => trivial) fun _ => ⟨hi, address, rfl⟩

theorem wr_mirror (a : RegAddr) (v : Byte) : (wr a v t).2.mirror = t.mirror := by
  obtain ⟨_, _, _, _, h⟩ := wr_frame a v t
  rw [h]; rfl

/-- The frames of `WRALL` are the write frames of its order, with the current images (spec R190, R191). -/
theorem writeFrames_eq_map (m : Mirror) : writeFrames m = writeOrder.map fun x => writeFrame x.1 (x.2 m) := rfl

theorem writeFrames_addresses (m : Mirror) :
    (writeFrames m).map Prod.fst = [0x40, 0x41, 0x42, 0x43, 0x44, 0x45, 0x46, 0x48, 0x49] := rfl

theorem listedFrame_wrall {x : RegAddr × (Mirror → Byte)} (hx : x ∈ writeOrder) (r : Except BusErr Unit) :
    ListedFrame .wrall s (.write (writeFrame x.1 (x.2 s.mirror)) r) := by
  have sent : writeFrame x.1 (x.2 s.mirror) ∈ writeFrames s.mirror := by
    rw [writeFrames_eq_map]
    exact List.mem_map_of_mem hx
  exact .inl ⟨rfl, writeFrames_addresses s.mirror ▸ List.mem_map_of_mem sent, sent⟩

/-- The loop of `WRALL` over addresses of its order sends their images, the field registers being left as they are. -/
theorem writeFrom_growsBy {order : List (RegAddr × (Mirror → Byte))} (horder : ∀ x ∈ order, x ∈ writeOrder)
    (hm : t.mirror = s.mirror) : GrowsBy (ListedFrame .wrall s) t (writeFrom order t).2 := by
  induction order generalizing t with
  | nil => exact growsBy_of_trace_eq rfl
  | cons x rest ih =>
    obtain ⟨a, pack⟩ := x
    have sent : GrowsBy (ListedFrame .wrall s) t (wr a (pack t.mirror) t).2 :=
      wr_growsBy (hm ▸ listedFrame_wrall (horder _ List.mem_cons_self))
    have mirror := (wr_mirror (t := t) a (pack t.mirror)).trans hm
    rcases hx : wr a (pack t.mirror) t with ⟨_ | r | _, u⟩ <;> rw [hx] at sent mirror
    · rw [writeFrom_done hx]
      exact sent.trans (ih (t := { u with seq := u.seq + 1 }) (fun y hy => horder y (List.mem_cons_of_mem _ hy)) mirror)
    · rw [writeFrom_raised hx]
      exact sent
    · rw [writeFrom_hung hx]
      exact sent

theorem readFrom_growsBy (order : List RegAddr) : GrowsBy (ListedFrame .rdall s) t (readFrom order t).2 :=
  readFrom_keeps (GrowsBy (ListedFrame .rdall s) t) (fun a _ h => h.trans (rd_growsBy (.inr (.inl rfl)) a))
    (fun _ _ h => h) order t (growsBy_of_trace_eq rfl)

/-- Every frame a host command sends is listed for it. -/
theorem exec_growsBy (hframeW : ∀ a v, i ≠ .frameW a v) (hframeR : ∀ a, i ≠ .frameR a)
    (hexec : exec i s = .next t) : GrowsBy (ListedFrame i s) s t := by
  obtain hset | hget | ⟨a, rfl⟩ | ⟨c, rfl⟩ | rfl | rfl | rfl | ⟨a, v, rfl⟩ | ⟨a, rfl⟩ := instr_cases i
  · obtain ⟨m, hm⟩ := exec_setter hset s
    cases hm.symm.trans hexec
    exact growsBy_of_trace_eq rfl
  · obtain ⟨b, hm⟩ := exec_getter hget s
    cases hm.symm.trans hexec
    exact growsBy_of_trace_eq rfl
  · cases (exec_rdreg_eq s a).symm.trans hexec
    exact finishCommand_growsBy _ (rd_growsBy (t := s.accept) (.inl ⟨a, rfl⟩) a)
  · cases (exec_wrerr_eq s c).symm.trans hexec
    have code : (c.code.setWidth 8).toNat ≤ 3 := by cases c <;> decide
    exact finishCommand_growsBy _ (wr_growsBy (t := s.accept) fun _ => .inr ⟨⟨c, rfl⟩, rfl, code⟩)
  · cases (exec_wrall_eq s).symm.trans hexec
    exact finishCommand_growsBy _ (writeFrom_growsBy (t := { s.accept with seq := 0 }) (fun _ hx => hx) rfl)
  · cases (exec_rdall_eq s).symm.trans hexec
    exact finishCommand_growsBy _ (forgetBuffer_growsBy (readFrom_growsBy (t := { s.accept with seq := 0 }) readOrder))
  · cases (exec_rderr_eq s).symm.trans hexec
    exact finishCommand_growsBy _ (rd_growsBy (t := s.accept) (.inr (.inr rfl)) .errFlag)
  · exact absurd rfl (hframeW a v)
  · exact absurd rfl (hframeR a)
end

/-- Settles O52: the calls a host command adds to the trace are all listed for it (`exec_growsBy`), and a write and a
read among them are listed by their rows of the table. -/
theorem framesSentAreTheListedOnes : Obligations.FramesSentAreTheListedOnes := by
  intro i s t hframeW hframeR hexec
  obtain ⟨calls, htrace, hlisted⟩ := exec_growsBy hframeW hframeR hexec
  exact ⟨calls, htrace, fun tx r => hlisted (.write tx r), fun tx r => hlisted (.exchange tx r)⟩

end Sys2Proof.Machine
end

section
/-! The field setters (spec R100, R101, R132). A setter is its end, `State.setMirror`, at a mirror whose values are the
old ones updated at one field; a mirror is determined by its values, and so the laws of two setters are the laws of
`Function.update`. -/

namespace Sys2Proof.Machine

/-! ### What a clamped setter stores -/

theorem clamp_eq_max_min {lo hi : Int} (hbounds : lo ≤ hi) (v : Int) : clamp v lo hi = max lo (min v hi) := by
  unfold clamp
  split_ifs <;> omega

theorem pulseCount_toNat (raw : Int) : ((pulseCount raw).toNat : Int) = max 0 (min raw 31) :=
  (ofNat_clamp_toNat (hi := 31) (by decide) raw).trans (clamp_eq_max_min (by decide) raw)

theorem tofNumber_toNat (raw : Int) : ((tofNumber raw).toNat : Int) = max 0 (min raw 1023) :=
  (ofNat_clamp_toNat (hi := 1023) (by decide) raw).trans (clamp_eq_max_min (by decide) raw)

/-! ### The end of a setter -/

/-- A setter's end writes the mirror, `busy` and the result, and nothing else (spec R100). -/
theorem State.setMirror_eq (s : State) (m : Mirror) :
    s.setMirror m = { s with mirror := m, busy := false, result := some okRecord } := rfl

/-- The later of two ends leaves nothing of the earlier. -/
@[simp] theorem State.setMirror_setMirror (s : State) (m n : Mirror) : 
    (s.setMirror m).setMirror n = s.setMirror n := rfl

theorem exec_eq_of_setMirror {i : Instr} {s : State} {m : Mirror} (h : exec i s = .next (s.setMirror m)) :
    exec i s = .next { s with mirror := m, busy := false, result := some okRecord } := by
  rw [h, State.setMirror_eq]

/-! ### The values of a mirror -/

/-- The integer of a code names one variant, if searching the table by its code finds a variant. -/
theorem eq_of_code_toNat_eq {α : Type} {w : Nat} {variants : List α} {code : α → BitVec w}
    (hfind : ∀ v, variantOf variants code ((code v).setWidth 16) = some v) {v v' : α}
    (h : (code v).toNat = (code v').toNat) : v = v' := by
  have codes : code v = code v' := BitVec.eq_of_toNat_eq h
  exact Option.some.inj ((hfind v).symm.trans (codes ▸ hfind v'))

/-- The thirty integers of spec R11 determine the mirror. -/
theorem value_injective : Function.Injective Mirror.value := by
  intro m n hmn
  have h : ∀ f, m.value f = n.value f := congrFun hmn
  cases m
  cases n
  simp only [Mirror.mk.injEq]
  exact ⟨eq_of_code_toNat_eq TxFrequencyDivider.variantOf_code (h .txFrequencyDivider),
    BitVec.eq_of_toNat_eq (h .txPulses),
    eq_of_code_toNat_eq MeasurementCycles.variantOf_code (h .measurementCycles),
    eq_of_code_toNat_eq ReceiveEvents.variantOf_code (h .receiveEvents),
    eq_of_code_toNat_eq VoltageReference.variantOf_code (h .voltageReference),
    eq_of_code_toNat_eq MeasurementMode.variantOf_code (h .measurementMode),
    eq_of_code_toNat_eq Switch.variantOf_code (h .damping),
    eq_of_code_toNat_eq Switch.variantOf_code (h .channelSwap),
    eq_of_code_toNat_eq Switch.variantOf_code (h .externalChannelSelect),
    eq_of_code_toNat_eq ChannelSelect.variantOf_code (h .channelSelect),
    eq_of_code_toNat_eq TofMeasMode.variantOf_code (h .tofMeasMode),
    eq_of_code_toNat_eq TempMode.variantOf_code (h .tempMode),
    eq_of_code_toNat_eq TempRtdSelect.variantOf_code (h .tempRtdSelect),
    eq_of_code_toNat_eq TempClockDivider.variantOf_code (h .tempClockDivider),
    eq_of_code_toNat_eq Switch.variantOf_code (h .powerBlanking),
    eq_of_code_toNat_eq EchoThreshold.variantOf_code (h .echoQualificationThreshold),
    eq_of_code_toNat_eq ReceiveMode.variantOf_code (h .receiveMode),
    eq_of_code_toNat_eq TriggerEdge.variantOf_code (h .triggerEdgePolarity),
    BitVec.eq_of_toNat_eq (h .txPulseShiftPosition),
    eq_of_code_toNat_eq PgaGain.variantOf_code (h .pgaGain),
    eq_of_code_toNat_eq AmpControl.variantOf_code (h .pgaControl),
    eq_of_code_toNat_eq AmpControl.variantOf_code (h .lnaControl),
    eq_of_code_toNat_eq LnaFeedback.variantOf_code (h .lnaFeedback),
    BitVec.eq_of_toNat_eq (h .tofValue),
    eq_of_code_toNat_eq Switch.variantOf_code (h .forceShortTof),
    eq_of_code_toNat_eq ShortTofBlankPeriod.variantOf_code (h .shortTofBlankPeriod),
    eq_of_code_toNat_eq EchoTimeout.variantOf_code (h .echoTimeout),
    eq_of_code_toNat_eq TofTimeoutControl.variantOf_code (h .tofTimeoutControl),
    eq_of_code_toNat_eq ClockInDivider.variantOf_code (h .clockInDivider),
    eq_of_code_toNat_eq AutoZeroPeriod.variantOf_code (h .autoZeroPeriod)⟩

/-- An image depends on the fields placed in its register only (spec R15, R140). -/
theorem image_congr {a : RegAddr} {img : Mirror → Byte} (himg : imageOf a = some img) {m n : Mirror}
    (h : ∀ p ∈ fieldMap, p.reg = a → m.value p.field = n.value p.field) : img m = img n := by
  simp only [fieldMap, List.forall_mem_cons] at h
  cases a <;> cases himg <;>
    simp only [reduceCtorEq, false_imp_iff, forall_const, true_and, Mirror.value, BitVec.toNat_inj] at h
  case config0 => simp only [packConfig0, h]
  case config1 => simp only [packConfig1, h]
  case config2 => simp only [packConfig2, h]
  case config3 => simp only [packConfig3, h]
  case config4 => simp only [packConfig4, h]
  case tof1 => simp only [packTof1, h]
  case tof0 => simp only [packTof0, h]
  case timeOut => simp only [packTimeOut, h]
  case clockRate => simp only [packClockRate, h]

/-! ### Every setter -/

/-- A setter ends with its target updated among the values of the mirror. -/
theorem exec_setter_updates {i : Instr} {f : FieldId} {n : Nat} (h : setterTarget i = some (f, n)) (s : State) :
    ∃ m, exec i s = .next (s.setMirror m) ∧ m.value = Function.update s.mirror.value f n := by
  cases i <;> cases h
  case setTxPulses raw | setTxPulseShiftPosition raw =>
    rw [← pulseCount_toNat raw, Int.toNat_natCast]
    exact ⟨_, rfl, funext fun g => by cases g <;> rfl⟩
  case setTofValue raw =>
    rw [← tofNumber_toNat raw, Int.toNat_natCast]
    exact ⟨_, rfl, funext fun g => by cases g <;> rfl⟩
  all_goals exact ⟨_, rfl, funext fun g => by cases g <;> rfl⟩

/-- Settles O21: the setter updates the values of the mirror at its field (`exec_setter_updates`), an image with no
part of that field is packed from values left as they were (`image_congr`), and the rest is the setter's end. -/
theorem setterWritesOnlyItsField : Obligations.SetterWritesOnlyItsField := by
  intro i f n htarget s
  obtain ⟨m, hexec, hvalue⟩ := exec_setter_updates htarget s
  have other : ∀ g, g ≠ f → m.value g = s.mirror.value g := fun g hg => by rw [hvalue, Function.update_of_ne hg]
  refine ⟨s.setMirror m, hexec, ?_, other, fun a img himg hplaced => ?_, s.setMirror_eq m⟩
  · rw [State.setMirror_mirror, hvalue, Function.update_self]
  · exact image_congr himg fun p hp hreg => other p.field fun hfield => hplaced p hp hfield hreg

/-! ### Two setters -/

section
variable {i j : Instr} {f g : FieldId} {a b : Nat}

theorem execTwo_setters_update (hi : setterTarget i = some (f, a)) (hj : setterTarget j = some (g, b)) (s : State) :
    ∃ m, execTwo i j s = .next (s.setMirror m)
      ∧ m.value = Function.update (Function.update s.mirror.value f a) g b := by
  obtain ⟨m, hfirst, hm⟩ := exec_setter_updates hi s
  obtain ⟨n, hsecond, hn⟩ := exec_setter_updates hj (s.setMirror m)
  refine ⟨n, ?_, by rw [hn, State.setMirror_mirror, hm]⟩
  calc execTwo i j s = exec j (s.setMirror m) := by rw [execTwo, hfirst]
    _ = .next (s.setMirror n) := by rw [hsecond, State.setMirror_setMirror]

/-- Setters of different fields commute (spec R132). -/
theorem execTwo_setters_comm (hi : setterTarget i = some (f, a)) (hj : setterTarget j = some (g, b)) (hne : f ≠ g)
    (s : State) : execTwo i j s = execTwo j i s := by
  obtain ⟨m, hij, hm⟩ := execTwo_setters_update hi hj s
  obtain ⟨n, hji, hn⟩ := execTwo_setters_update hj hi s
  have mirrors : m = n := value_injective (by rw [hm, hn, Function.update_comm hne])
  rw [hij, hji, mirrors]

/-- Of two setters of one field the later wins (spec R132). -/
theorem execTwo_setters_same (hi : setterTarget i = some (f, a)) (hj : setterTarget j = some (f, b)) (s : State) :
    execTwo i j s = exec j s := by
  obtain ⟨m, hij, hm⟩ := execTwo_setters_update hi hj s
  obtain ⟨n, hlater, hn⟩ := exec_setter_updates hj s
  have mirrors : m = n := value_injective (by rw [hm, hn, Function.update_idem])
  rw [hij, hlater, mirrors]
end

/-- Settles O22: two setters commute on different fields (`execTwo_setters_comm`) and on one field the later wins
(`execTwo_setters_same`), of which a repeated setter is the case where the two are one. -/
theorem settersCommuteAndLaterWins : Obligations.SettersCommuteAndLaterWins :=
  ⟨fun _ _ _ _ _ _ hi hj hne => execTwo_setters_comm hi hj hne, fun _ _ _ _ _ hi hj => execTwo_setters_same hi hj,
    fun _ _ _ hi => execTwo_setters_same hi hi⟩

/-! ### The setters one by one: each is its end at the mirror with its field replaced -/

/-- Settles O13, the pulse count being the saturated operand (`pulseCount_toNat`). -/
theorem settersOfConfig0StoreTheirField : Obligations.SettersOfConfig0StoreTheirField :=
  ⟨fun _ _ => exec_eq_of_setMirror rfl, fun _ raw => ⟨_, pulseCount_toNat raw, exec_eq_of_setMirror rfl⟩⟩

/-- Settles O14 (`exec_eq_of_setMirror`, for each of the two). -/
theorem settersOfConfig1StoreTheirField : Obligations.SettersOfConfig1StoreTheirField :=
  ⟨fun _ _ => exec_eq_of_setMirror rfl, fun _ _ => exec_eq_of_setMirror rfl⟩

/-- Settles O15 (`exec_eq_of_setMirror`, for each of the seven). -/
theorem settersOfConfig2StoreTheirField : Obligations.SettersOfConfig2StoreTheirField := by
  refine ⟨?_, ?_, ?_, ?_, ?_, ?_, ?_⟩ <;> exact fun _ _ => exec_eq_of_setMirror rfl

/-- Settles O16 (`exec_eq_of_setMirror`, for each of the five). -/
theorem settersOfConfig3StoreTheirField : Obligations.SettersOfConfig3StoreTheirField := by
  refine ⟨?_, ?_, ?_, ?_, ?_⟩ <;> exact fun _ _ => exec_eq_of_setMirror rfl

/-- Settles O17, the shift position being the saturated operand (`pulseCount_toNat`). -/
theorem settersOfConfig4StoreTheirField : Obligations.SettersOfConfig4StoreTheirField :=
  ⟨fun _ _ => exec_eq_of_setMirror rfl, fun _ _ => exec_eq_of_setMirror rfl,
    fun _ raw => ⟨_, pulseCount_toNat raw, exec_eq_of_setMirror rfl⟩⟩

/-- Settles O18, `tof_value` being the saturated operand (`tofNumber_toNat`). -/
theorem settersOfTofStoreTheirField : Obligations.SettersOfTofStoreTheirField :=
  ⟨fun _ _ => exec_eq_of_setMirror rfl, fun _ _ => exec_eq_of_setMirror rfl, fun _ _ => exec_eq_of_setMirror rfl,
    fun _ _ => exec_eq_of_setMirror rfl, fun _ raw => ⟨_, tofNumber_toNat raw, exec_eq_of_setMirror rfl⟩⟩

/-- Settles O19 (`exec_eq_of_setMirror`, for each of the four). -/
theorem settersOfTimeOutStoreTheirField : Obligations.SettersOfTimeOutStoreTheirField := by
  refine ⟨?_, ?_, ?_, ?_⟩ <;> exact fun _ _ => exec_eq_of_setMirror rfl

/-- Settles O20 (`exec_eq_of_setMirror`, for each of the two). -/
theorem settersOfClockRateStoreTheirField : Obligations.SettersOfClockRateStoreTheirField :=
  ⟨fun _ _ => exec_eq_of_setMirror rfl, fun _ _ => exec_eq_of_setMirror rfl⟩

end Sys2Proof.Machine
end

section
/-! The pack rule (spec R140) over any field map: with disjoint masks it keeps every contribution and is their sum. -/

namespace Sys2Proof.Machine

section
variable {rows : List Placement} {p : Placement} (value : FieldId → Nat)

@[simp] theorem packRows_nil : packRows [] value = 0 := rfl

@[simp] theorem packRows_cons : packRows (p :: rows) value = p.contribution value ||| packRows rows value := rfl

/-- What is packed does not reach a mask that is disjoint from all of its rows' masks. -/
theorem packRows_and_disjoint (h : ∀ q ∈ rows, q.mask &&& p.mask = 0) : packRows rows value &&& p.mask = 0 := by
  induction rows with
  | nil => exact Nat.zero_and _
  | cons q rest ih =>
    obtain ⟨head, tail⟩ := List.forall_mem_cons.mp h
    rw [packRows_cons, Nat.and_or_distrib_right, contribution_and_disjoint value head, ih tail, Nat.zero_or]

/-- The bits of a placement's mask are its contribution (spec R154). -/
theorem packRows_and_mask (h : rows.Pairwise fun q r => q.mask &&& r.mask = 0) (hp : p ∈ rows) :
    packRows rows value &&& p.mask = p.contribution value := by
  induction rows with
  | nil => cases hp
  | cons q rest ih =>
    obtain ⟨head, tail⟩ := List.pairwise_cons.mp h
    rw [packRows_cons, Nat.and_or_distrib_right]
    rcases List.mem_cons.mp hp with rfl | hp
    · have others : packRows rest value &&& p.mask = 0 :=
        packRows_and_disjoint value fun r hr => by rw [Nat.and_comm, head r hr]
      rw [contribution_and_mask, others, Nat.or_zero]
    · rw [contribution_and_disjoint value (head p hp), ih tail hp, Nat.zero_or]

/-- Numbers that share no bit are OR'd by adding them. -/
theorem or_eq_add_of_and_eq_zero {x y : Nat} (h : x &&& y = 0) : x ||| y = x + y := by
  have bound : x + y < 2 ^ (x + y) := Nat.lt_two_pow_self
  have words := BitVec.add_eq_or_of_and_eq_zero (BitVec.ofNat (x + y) x) (BitVec.ofNat (x + y) y)
    (by rw [← BitVec.ofNat_and, h])
  rw [← BitVec.ofNat_add, ← BitVec.ofNat_or, ← BitVec.toNat_inj, BitVec.toNat_ofNat, BitVec.toNat_ofNat,
    Nat.mod_eq_of_lt bound, Nat.mod_eq_of_lt (Nat.or_lt_two_pow (by omega) (by omega))] at words
  exact words.symm

/-- With disjoint masks the OR of spec R140 is a sum. -/
theorem packRows_eq_sum (h : rows.Pairwise fun q r => q.mask &&& r.mask = 0) :
    packRows rows value = (rows.map fun q => q.contribution value).sum := by
  induction rows with
  | nil => rfl
  | cons q rest ih =>
    obtain ⟨head, tail⟩ := List.pairwise_cons.mp h
    have apart : packRows rest value &&& q.contribution value = 0 := by
      rw [← contribution_and_mask q value, Nat.and_left_comm,
        packRows_and_disjoint value fun r hr => by rw [Nat.and_comm, head r hr], Nat.and_zero]
    rw [packRows_cons, Nat.or_comm, or_eq_add_of_and_eq_zero apart, ih tail, Nat.add_comm, List.map_cons, List.sum_cons]
end

/-- Settles O27: masking the packed number keeps the placement's contribution (`packRows_and_mask`), and the masked
number is the range of bits it was shifted from (`and_shifted_mask`). -/
theorem anyDisjointFieldMapIsLossless : Obligations.AnyDisjointFieldMapIsLossless := by
  intro rows value h p hp
  have shifted : (packRows rows value >>> p.offset % 2 ^ p.width) <<< p.offset = p.contribution value := by
    rw [← and_shifted_mask]
    exact packRows_and_mask value h hp
  simpa [Placement.contribution] using congrArg (· >>> p.offset) shifted

/-! ### The field map of the spec -/

/-- Settles O26: the masks of each register, and their AND and OR, are computed from the field map. -/
theorem masksAreDisjointAndFillTheByte : Obligations.MasksAreDisjointAndFillTheByte :=
  ⟨rfl, rfl, rfl, rfl, rfl, rfl, rfl, rfl, rfl, by decide⟩

theorem mem_placementsOf {a : RegAddr} {p : Placement} : p ∈ placementsOf a ↔ p ∈ fieldMap ∧ p.reg = a := by
  simp [placementsOf]

theorem fieldMap_nodup : fieldMap.Nodup := by decide

theorem placementsOf_disjoint (a : RegAddr) : (placementsOf a).Pairwise fun p q => p.mask &&& q.mask = 0 := by
  have distinct : (placementsOf a).Nodup := fieldMap_nodup.filter _
  refine distinct.imp_of_mem fun {p q} hp hq hne => ?_
  obtain ⟨hp, hpreg⟩ := mem_placementsOf.mp hp
  obtain ⟨hq, hqreg⟩ := mem_placementsOf.mp hq
  exact fieldMap_disjoint p hp q hq (hpreg.trans hqreg.symm) hne

section
variable {m : Mirror} {f : FieldId} {a : RegAddr} {o w : Nat}

/-- A field placed whole contributes its value, shifted. -/
theorem contribution_whole (hw : f.width = w) : Placement.contribution ⟨f, a, o, w, 0⟩ m.value = m.value f <<< o := by
  subst hw
  rw [Placement.contribution, Nat.shiftRight_zero, Nat.mod_eq_of_lt (value_lt m f)]

/-- A contribution that fits its image is placed without loss (spec R84). -/
theorem place_toNat (v : BitVec w) (h : w + o ≤ 8) : (place v o).toNat = v.toNat <<< o := by
  have bound : v.toNat <<< o < 2 ^ 8 := by
    calc v.toNat <<< o = v.toNat * 2 ^ o := Nat.shiftLeft_eq ..
      _ < 2 ^ w * 2 ^ o := Nat.mul_lt_mul_of_pos_right v.isLt (Nat.two_pow_pos o)
      _ = 2 ^ (w + o) := (Nat.pow_add ..).symm
      _ ≤ 2 ^ 8 := Nat.pow_le_pow_right (by decide) h
  rw [place, BitVec.toNat_shiftLeft, BitVec.toNat_setWidth_of_le (by omega), Nat.mod_eq_of_lt bound]

/-- The two cuts of `tof_value` (spec R83): its upper bits go to Tof1, its low byte to Tof0. -/
theorem contribution_tofHigh : Placement.contribution ⟨.tofValue, a, 0, 2, 8⟩ m.value = m.value .tofValue / 256 := by
  have ten : m.value .tofValue < 2 ^ 10 := value_lt m .tofValue
  change (m.value .tofValue >>> 8 % 2 ^ 2) <<< 0 = m.value .tofValue / 256
  rw [Nat.shiftLeft_zero, Nat.shiftRight_eq_div_pow]
  omega

theorem contribution_tofLow : Placement.contribution ⟨.tofValue, a, 0, 8, 0⟩ m.value = m.value .tofValue % 256 := rfl

theorem tofHigh_toNat (t : BitVec 10) : (tofHigh t).toNat = t.toNat / 256 := by
  rw [tofHigh, BitVec.extractLsb'_toNat, Nat.shiftRight_eq_div_pow]
  omega

theorem tofLow_toNat (t : BitVec 10) : (tofLow t).toNat = t.toNat % 256 := BitVec.extractLsb'_toNat ..
end

/-- Settles O25, register by register: both sides OR the fields' codes shifted to their offsets, on the left as placed
bytes (`place_toNat`), on the right as contributions (`contribution_whole`, and the two cuts of `tof_value`). -/
theorem packFunctionsFollowTheFieldMap : Obligations.PackFunctionsFollowTheFieldMap := by
  intro m a img himg
  cases a <;> cases himg
  all_goals
    simp (disch := decide) [placementsOf, fieldMap, contribution_whole, contribution_tofHigh, contribution_tofLow,
      place_toNat, tofHigh_toNat, tofLow_toNat, Mirror.value, packConfig0, packConfig1, packConfig2, packConfig3,
      packConfig4, packTof1, packTof0, packTimeOut, packClockRate, Nat.or_assoc]

/-! ### The byte accessors -/

/-- A byte accessor packs the image of its register and presents it (spec R140). -/
theorem exec_getter_image {g : Instr} {a : RegAddr} (h : getterTarget g = some a) :
    ∃ img, imageOf a = some img ∧ ∀ s, exec g s = .next (s.present (Result.byte (img s.mirror))) := by
  cases g <;> cases h <;> exact ⟨_, rfl, fun _ => rfl⟩

/-- The byte an accessor returns is the sum of its register's contributions, and only the record and `busy` are
written. -/
theorem exec_getter_sum {g : Instr} {a : RegAddr} {sum : State → Nat} (h : getterTarget g = some a)
    (hsum : ∀ s, ((placementsOf a).map fun p => p.contribution s.mirror.value).sum = sum s) (s : State) :
    ∃ b : Byte, exec g s = .next { s with busy := false, result := some (dataRecord b) } ∧ b.toNat = sum s := by
  obtain ⟨img, himg, hexec⟩ := exec_getter_image h
  refine ⟨img s.mirror, hexec s, ?_⟩
  calc (img s.mirror).toNat = packRows (placementsOf a) s.mirror.value := packFunctionsFollowTheFieldMap _ _ _ himg
    _ = ((placementsOf a).map fun p => p.contribution s.mirror.value).sum :=
      packRows_eq_sum _ (placementsOf_disjoint a)
    _ = sum s := hsum s

/-- Settles O24: the image is the sum of the contributions of its register (`exec_getter_sum`), each a value times two
to its offset (`contribution_whole`), or one of the two cuts of `tof_value`. -/
theorem accessorsReturnTheSumOfTheirFields : Obligations.AccessorsReturnTheSumOfTheirFields := by
  refine ⟨exec_getter_sum rfl ?_, exec_getter_sum rfl ?_, exec_getter_sum rfl ?_, exec_getter_sum rfl ?_,
    exec_getter_sum rfl ?_, exec_getter_sum rfl ?_, exec_getter_sum rfl ?_, exec_getter_sum rfl ?_,
    exec_getter_sum rfl ?_⟩
  all_goals
    intro s
    simp (disch := decide) [placementsOf, fieldMap, contribution_whole, contribution_tofHigh, contribution_tofLow,
      Nat.shiftLeft_eq, Nat.mul_comm, Nat.add_assoc]

end Sys2Proof.Machine
end

section
/-! The images lose nothing (spec R154, R156): every field is read back from the image it is packed into. -/

namespace Sys2Proof.Machine

/-! ### The halves of `tof_value` -/

theorem two_bytes_join (t : Nat) : (t / 256) <<< 8 ||| t % 256 = t := by
  have low : t % 256 < 2 ^ 8 := Nat.mod_lt _ (by decide)
  rw [Nat.shiftLeft_eq, Nat.mul_comm, ← Nat.two_pow_add_eq_or_of_lt low]
  exact Nat.div_add_mod t 256

/-- A placement's contribution is read back from the image (spec R154): the field map's rows are disjoint, and so any
of them is kept (O27) by the image, which is packed by the field map (O25). -/
theorem image_recovers {p : Placement} {img : Mirror → Byte} (hp : p ∈ fieldMap) (himg : imageOf p.reg = some img)
    (m : Mirror) : (img m).toNat >>> p.offset % 2 ^ p.width = m.value p.field >>> p.cut % 2 ^ p.width := by
  rw [packFunctionsFollowTheFieldMap m p.reg img himg]
  exact anyDisjointFieldMapIsLossless _ _ (placementsOf_disjoint p.reg) p (mem_placementsOf.mpr ⟨hp, rfl⟩)

/-- Every field but `tof_value` lies whole in one image (spec R83). -/
theorem fieldMap_whole : ∀ p ∈ fieldMap, p.field ≠ .tofValue → p.cut = 0 ∧ p.width = p.field.width := by decide

theorem image_field {p : Placement} {img : Mirror → Byte} (hp : p ∈ fieldMap) (hf : p.field ≠ .tofValue)
    (himg : imageOf p.reg = some img) (m : Mirror) :
    (img m).toNat >>> p.offset % 2 ^ p.width = m.value p.field := by
  obtain ⟨hcut, hwidth⟩ := fieldMap_whole p hp hf
  rw [image_recovers hp himg, hcut, Nat.shiftRight_zero, hwidth, Nat.mod_eq_of_lt (value_lt m p.field)]

theorem packTof1_low (m : Mirror) : (packTof1 m).toNat % 4 = m.value .tofValue / 256 := by
  have read : (packTof1 m).toNat % 4 = m.value .tofValue >>> 8 % 4 :=
    image_recovers (p := ⟨.tofValue, .tof1, 0, 2, 8⟩) (by decide) rfl m
  have ten : m.value .tofValue < 2 ^ 10 := value_lt m .tofValue
  rw [read, Nat.shiftRight_eq_div_pow]
  omega

theorem packTof0_toNat (m : Mirror) : (packTof0 m).toNat = m.value .tofValue % 256 := tofLow_toNat m.tofValue

/-- Settles O29: Tof1's low bits and Tof0 are the quotient and the remainder of `tof_value` by 256 (`packTof1_low`,
`packTof0_toNat`), which join to it again (`two_bytes_join`). -/
theorem timeOfFlightRoundTrip : Obligations.TimeOfFlightRoundTrip := by
  intro m t
  have high : (packTof1 m).toNat &&& 3 = t / 256 :=
    (Nat.and_two_pow_sub_one_eq_mod _ 2).trans (packTof1_low m)
  have low : (packTof0 m).toNat = t % 256 := packTof0_toNat m
  rw [Nat.shiftRight_eq_div_pow, high, low]
  refine ⟨rfl, rfl, two_bytes_join t, fun h => ?_, fun h => ?_⟩ <;> rw [h] <;> exact ⟨rfl, rfl⟩

/-! ### The nine images together -/

theorem tofValue_joined (m : Mirror) :
    m.value .tofValue = ((packTof1 m).extractLsb' 0 2).toNat <<< 8 ||| (packTof0 m).toNat := by
  have high : ((packTof1 m).extractLsb' 0 2).toNat = m.value .tofValue / 256 := by
    rw [BitVec.extractLsb'_toNat]
    exact packTof1_low m
  rw [high, packTof0_toNat, two_bytes_join]

/-- Every field has a place in the field map, and every row of the map a register with an image. -/
theorem exists_placement (f : FieldId) : ∃ p ∈ fieldMap, p.field = f := by
  cases f <;> decide

theorem fieldMap_hasImage : ∀ p ∈ fieldMap, p.reg ≠ .errFlag := by decide

theorem SameImages.image_eq {m n : Mirror} (h : SameImages m n) {a : RegAddr} {img : Mirror → Byte}
    (himg : imageOf a = some img) : img m = img n := by
  obtain ⟨config0, config1, config2, config3, config4, tof1, tof0, timeOut, clockRate⟩ := h
  cases a <;> cases himg <;> assumption

theorem exists_image {a : RegAddr} (ha : a ≠ .errFlag) : ∃ img, imageOf a = some img := by
  cases a
  case errFlag => exact absurd rfl ha
  all_goals exact ⟨_, rfl⟩

/-- Images determine the mirror (spec R154): each value is read back from images that are the same. -/
theorem SameImages.eq {m n : Mirror} (h : SameImages m n) : m = n := by
  refine value_injective (funext fun f => ?_)
  by_cases hf : f = .tofValue
  · rw [hf, tofValue_joined, tofValue_joined, h.image_eq (a := .tof1) rfl, h.image_eq (a := .tof0) rfl]
  · obtain ⟨p, hp, rfl⟩ := exists_placement f
    obtain ⟨img, himg⟩ := exists_image (fieldMap_hasImage p hp)
    rw [← image_field hp hf himg, ← image_field hp hf himg, h.image_eq himg]

/-- Settles O28: each field is read back from its image (`image_field`, `tofValue_joined`), and so the images determine
the mirror (`SameImages.eq`). -/
theorem imagesLoseNothing : Obligations.ImagesLoseNothing := by
  refine ⟨fun m p img hp hf himg => ?_, tofValue_joined, fun m n => ⟨SameImages.eq, ?_⟩⟩
  · rw [Nat.and_two_pow_sub_one_eq_mod]
    exact image_field hp hf himg m
  · rintro rfl
    exact ⟨rfl, rfl, rfl, rfl, rfl, rfl, rfl, rfl, rfl⟩

end Sys2Proof.Machine
end

section
/-! What stands between two reads of an image (spec R152): every instruction that sets no field of the register keeps
the fields placed in it. -/

namespace Sys2Proof.Machine

/-- `t` holds the values of `s` in every field placed in the register `a`. -/
def KeepsFieldsOf (a : RegAddr) (s t : State) : Prop :=
  ∀ p ∈ fieldMap, p.reg = a → t.mirror.value p.field = s.mirror.value p.field

/-- The instruction `i` is no setter of a field placed in `a`. -/
def SetsNoFieldOf (a : RegAddr) (i : Instr) : Prop :=
  ∀ f n, setterTarget i = some (f, n) → ∀ p ∈ fieldMap, p.field = f → p.reg ≠ a

section
variable {a : RegAddr} {i : Instr} {s t u : State}

theorem keepsFieldsOf_of_mirror_eq (h : t.mirror = s.mirror) : KeepsFieldsOf a s t := fun _ _ _ => by rw [h]

theorem KeepsFieldsOf.trans (hst : KeepsFieldsOf a s t) (htu : KeepsFieldsOf a t u) : KeepsFieldsOf a s u :=
  fun p hp hreg => (htu p hp hreg).trans (hst p hp hreg)

theorem KeepsFieldsOf.image_eq (h : KeepsFieldsOf a s t) {img : Mirror → Byte} (himg : imageOf a = some img) :
    img t.mirror = img s.mirror :=
  image_congr himg h

theorem makesCalls_of_no_setter_no_getter (hset : setterTarget i = none) (hget : getterTarget i = none) :
    makesCalls i = true := by
  obtain h | h | ⟨_, rfl⟩ | ⟨_, rfl⟩ | rfl | rfl | rfl | ⟨_, _, rfl⟩ | ⟨_, rfl⟩ := instr_cases i
  · rw [hset] at h
    cases h
  · rw [hget] at h
    cases h
  all_goals rfl

theorem exec_keepsFieldsOf (hi : SetsNoFieldOf a i) (hexec : exec i s = .next t) : KeepsFieldsOf a s t := by
  rcases hset : setterTarget i with _ | ⟨f, n⟩
  · rcases hget : getterTarget i with _ | b
    · exact keepsFieldsOf_of_mirror_eq (exec_busFrame (makesCalls_of_no_setter_no_getter hset hget) hexec).mirror
    · obtain ⟨img, _, himg⟩ := exec_getter_image hget
      cases (himg s).symm.trans hexec
      exact keepsFieldsOf_of_mirror_eq rfl
  · obtain ⟨m, hm, hvalue⟩ := exec_setter_updates hset s
    cases hm.symm.trans hexec
    intro p hp hreg
    have other : p.field ≠ f := fun hfield => hi f n hset p hp hfield hreg
    rw [State.setMirror_mirror, hvalue, Function.update_of_ne other]

theorem execAll_keepsFieldsOf {is : List Instr} (his : ∀ i ∈ is, SetsNoFieldOf a i)
    (hexec : execAll is s = .next t) : KeepsFieldsOf a s t := by
  induction is generalizing s with
  | nil =>
    cases hexec
    exact keepsFieldsOf_of_mirror_eq rfl
  | cons i rest ih =>
    obtain ⟨hi, hrest⟩ := List.forall_mem_cons.mp his
    rw [execAll] at hexec
    split at hexec
    case h_1 u hu => exact (exec_keepsFieldsOf hi hu).trans (ih hrest hexec)
    all_goals cases hexec
end

/-- Settles O30: what runs between the two reads keeps the fields of the register (`execAll_keepsFieldsOf`), and its
image is packed from these alone (`image_congr`). -/
theorem accessorsArePureBetweenSetters : Obligations.AccessorsArePureBetweenSetters := by
  intro g a hg is his s t u hread hbetween
  obtain ⟨img, himg, hexec⟩ := exec_getter_image hg
  cases (hexec s).symm.trans hread
  have same : img u.mirror = img s.mirror := (execAll_keepsFieldsOf his hbetween).image_eq himg
  exact ⟨_, hexec u, by rw [State.present_result, State.present_result, same]⟩

end Sys2Proof.Machine
end

section
/-! The status unpack (spec R150) and the one instruction that presents flags. -/

namespace Sys2Proof.Machine

theorem unpackStatus_and_seven (b : Byte) : unpackStatus (b &&& 0x07) = unpackStatus b := by
  simp [unpackStatus]

/-- An ended bus command whose value has no flags presents none; an error's record has none either (spec R209). -/
theorem finishCommand_no_flags {α : Type} {ok : State → α → Result} {c : Course α × State} {r : Result}
    (hok : ∀ t v, (ok t v).flags = none) (hbusy : c.2.busy = true) (hended : (finishCommand ok c).busy = false)
    (hr : (finishCommand ok c).result = some r) : ¬ r.flags.isSome = true := by
  rcases c with ⟨v | e | _, t⟩
  · cases hr
    rw [hok]
    exact nofun
  · cases hr
    exact nofun
  · exact absurd (hbusy.symm.trans hended) (by decide)

/-- Only RDERR presents flags: no other host command does (`exec_presentsParts`), and a primitive run by itself ends
with the record of WRERR or RDREG (assumption log 15). -/
theorem eq_rderr_of_flags {i : Instr} {s t : State} {r : Result} (hexec : exec i s = .next t) (hended : t.busy = false)
    (hr : t.result = some r) (hflags : r.flags.isSome = true) : i = .rderr := by
  by_cases hframeW : ∃ a v, i = .frameW a v
  · obtain ⟨a, v, rfl⟩ := hframeW
    cases (exec_frameW_eq s a v).symm.trans hexec
    exact absurd hflags (finishCommand_no_flags (fun _ _ => rfl) (wr_busy a v) hended hr)
  by_cases hframeR : ∃ a, i = .frameR a
  · obtain ⟨a, rfl⟩ := hframeR
    cases (exec_frameR_eq s a).symm.trans hexec
    exact absurd hflags (finishCommand_no_flags (fun _ _ => rfl) (rd_busy a) hended hr)
  obtain ⟨r', hr', parts⟩ :=
    exec_presentsParts (fun a v h => hframeW ⟨a, v, h⟩) (fun a h => hframeR ⟨a, h⟩) hexec hended
  cases hr.symm.trans hr'
  exact (parts.flags.mp hflags).2

/-- Settles O33: the three bits survive the mask (`unpackStatus_and_seven`), the vectors are computed, and the last
clause is `eq_rderr_of_flags`. -/
theorem statusUnpackAndItsOnlyUser : Obligations.StatusUnpackAndItsOnlyUser :=
  ⟨fun b => ⟨rfl, rfl, rfl, (unpackStatus_and_seven b).symm⟩, rfl, rfl, rfl, rfl,
    fun _ _ _ _ hexec hended hr hflags => eq_rderr_of_flags hexec hended hr hflags⟩

end Sys2Proof.Machine
end

section
/-! The commands of one transaction (spec R170 to R178): each is one framed transfer and the end of a command, so each
course of the transaction gives its next state once, for all five of them. -/

namespace Sys2Proof.Machine

/-! ### The command of one transaction -/

/-- The state a command of one transaction leaves: its calls made, and `ok` the record of the value transferred. -/
def singleCommand {α : Type} (get : Draw → Option (Except BusErr α)) (entry : Except BusErr α → TraceEntry)
    (ok : α → Result) (s : State) : State :=
  finishCommand (fun _ v => ok v) (transact (callTransfer get entry) s.accept)

/-- A deassert that fails is what the transaction raises, whatever the transfer answered (spec D10). -/
theorem deassertFailure_eq {α : Type} (e3 : SelErr) (r2 : Except BusErr α) : deassertFailure e3 r2 = .select e3 := by
  cases r2 <;> rfl

section
variable {α : Type} (get : Draw → Option (Except BusErr α)) (entry : Except BusErr α → TraceEntry)
  (ok : α → Result) {s : State}

/-- Row 1 of the table of R170. -/
theorem singleCommand_assert_fails {e1 : SelErr} (h : (s.env.drawAt 0).sel = some (.error e1)) :
    singleCommand get entry ok s = s.after [.selAssert (.error e1)] .unknown (selectRecord e1) := by
  rw [singleCommand, transact_assert_fails get entry s.accept h]
  rfl

/-- Rows 2 to 5 of the table of R170: a failed deassert is reported alone (`deassertFailure_eq`); after one that
succeeded the record is that of the transfer. -/
theorem singleCommand_follows_table {r2 : Except BusErr α} {r3 : Except SelErr Unit}
    (h0 : (s.env.drawAt 0).sel = some (.ok ())) (h1 : get (s.env.drawAt 1) = some r2)
    (h2 : (s.env.drawAt 2).sel = some r3) :
    singleCommand get entry ok s
      = s.after (courseRow entry r2 r3).calls (courseRow entry r2 r3).line
          (resultOf ok (courseRow entry r2 r3).outcome) := by
  rw [singleCommand, transact_closes get entry s.accept h0 h1 h2]
  rcases r3 with e3 | _
  · rw [closingCourse, deassertFailure_eq]
    cases r2 <;> rfl
  · cases r2 <;> rfl

/-- The assert is never answered (spec R173). -/
theorem singleCommand_assert_silent (h : (s.env.drawAt 0).sel = none) :
    singleCommand get entry ok s = { s with busy := true, phase := .assert } := by
  rw [singleCommand, transact_assert_silent get entry s.accept h]
  simp [State.waiting, State.accept]

/-- The transfer is never answered. -/
theorem singleCommand_transfer_silent (h0 : (s.env.drawAt 0).sel = some (.ok ()))
    (h1 : get (s.env.drawAt 1) = none) :
    singleCommand get entry ok s = { s with
      busy := true, phase := .xfer, sel := .active
      trace := s.trace ++ [.selAssert (.ok ())], env := s.env.advance 1 } := by
  rw [singleCommand, transact_transfer_silent get entry s.accept h0 h1]
  rfl

/-- The deassert is never answered: a failed transfer's payload is pending (spec R29). -/
theorem singleCommand_deassert_silent {r2 : Except BusErr α} (h0 : (s.env.drawAt 0).sel = some (.ok ()))
    (h1 : get (s.env.drawAt 1) = some r2) (h2 : (s.env.drawAt 2).sel = none) :
    singleCommand get entry ok s = { s with
      busy := true, phase := .deassert, sel := .active, pend := failureOf r2
      trace := s.trace ++ [.selAssert (.ok ()), entry r2], env := s.env.advance 2 } := by
  rw [singleCommand, transact_deassert_silent get entry s.accept h0 h1 h2]
  cases r2 <;> rfl
end

/-! ### The five commands -/

/-- The record of a read's byte is the record of the second byte of the pair received (spec R172). -/
theorem finishCommand_readByte (ok : Byte → Result) (c : Course (Byte × Byte) × State) :
    finishCommand (fun _ b => ok b) (readByte c) = finishCommand (fun _ rx => ok rx.2) c := by
  rcases c with ⟨_ | _ | _, s⟩ <;> rfl

/-- The frame of a write, in numbers (spec R64). -/
theorem writeFrame_eq (a : RegAddr) (v : Byte) : writeFrame a v = (BitVec.ofNat 8 (64 + a.number), v) := by
  cases a <;> rfl

/-- The frame of a read, in numbers (spec R65). -/
theorem readFrame_eq (a : RegAddr) : readFrame a = readFrameAt a.number := rfl

/-- The command `i` is one framed exchange with the register `a`. -/
def ReadsOnce (i : Instr) (a : RegAddr) : Prop := i = .rdreg a ∨ (i = .rderr ∧ a = .errFlag) ∨ i = .frameR a

/-- The command `i` is one framed write of `tx`. -/
def WritesOnce (i : Instr) (tx : Byte × Byte) : Prop :=
  (∃ c, i = .wrerr c ∧ tx = (0x47, c.code.setWidth 8))
    ∨ ∃ a v, i = .frameW a v ∧ tx = (BitVec.ofNat 8 (64 + a.number), v)

/-- The commands that write, whatever the frame. -/
theorem exists_writesOnce {i : Instr} (h : (∃ c, i = .wrerr c) ∨ ∃ a v, i = .frameW a v) :
    ∃ tx, WritesOnce i tx := by
  obtain ⟨c, rfl⟩ | ⟨a, v, rfl⟩ := h
  · exact ⟨_, .inl ⟨c, rfl, rfl⟩⟩
  · exact ⟨_, .inr ⟨a, v, rfl, rfl⟩⟩

section
variable (s : State)

/-- A read and the end of its command are a command of one transaction. -/
theorem finishCommand_rd (ok : Byte → Result) (a : RegAddr) :
    finishCommand (fun _ b => ok b) (rd a s.accept)
      = singleCommand Draw.exchange (.exchange (readFrameAt a.number)) (fun rx => ok rx.2) s := by
  rw [rd_eq, finishCommand_readByte, readFrame_eq, singleCommand]

/-- A write and the end of its command are a command of one transaction. -/
theorem finishCommand_wr (a : RegAddr) (v : Byte) :
    finishCommand (fun _ _ => Result.done) (wr a v s.accept)
      = singleCommand Draw.write (.write (BitVec.ofNat 8 (64 + a.number), v)) (fun _ => okRecord) s := by
  rw [wr_eq, writeFrame_eq]
  rfl

theorem exec_rdreg_single (a : RegAddr) :
    exec (.rdreg a) s
      = .next (singleCommand Draw.exchange (.exchange (readFrameAt a.number)) (fun rx => dataRecord rx.2) s) :=
  (exec_rdreg_eq s a).trans (congrArg _ (finishCommand_rd s dataRecord a))

theorem exec_rderr_single :
    exec .rderr s
      = .next (singleCommand Draw.exchange (.exchange (0x07, 0xFF)) (fun rx => flagsRecord (unpackStatus rx.2)) s) :=
  (exec_rderr_eq s).trans (congrArg _ (finishCommand_rd s (fun b => flagsRecord (unpackStatus b)) .errFlag))

theorem exec_frameR_single (a : RegAddr) :
    exec (.frameR a) s
      = .next (singleCommand Draw.exchange (.exchange (readFrameAt a.number)) (fun rx => dataRecord rx.2) s) :=
  (exec_frameR_eq s a).trans (congrArg _ (finishCommand_rd s dataRecord a))

theorem exec_wrerr_single (c : ErrControl) :
    exec (.wrerr c) s
      = .next (singleCommand Draw.write (.write (0x47, c.code.setWidth 8)) (fun _ => okRecord) s) :=
  (exec_wrerr_eq s c).trans (congrArg _ (finishCommand_wr s .errFlag _))

theorem exec_frameW_single (a : RegAddr) (v : Byte) :
    exec (.frameW a v) s
      = .next (singleCommand Draw.write (.write (BitVec.ofNat 8 (64 + a.number), v)) (fun _ => okRecord) s) :=
  (exec_frameW_eq s a v).trans (congrArg _ (finishCommand_wr s a v))

/-- The three commands that read one register differ in the record of the byte only. -/
theorem exec_readsOnce {i : Instr} {a : RegAddr} (h : ReadsOnce i a) :
    ∃ ok, exec i s = .next (singleCommand Draw.exchange (.exchange (readFrameAt a.number)) ok s) := by
  obtain rfl | ⟨rfl, rfl⟩ | rfl := h
  · exact ⟨_, exec_rdreg_single s a⟩
  · exact ⟨_, exec_rderr_single s⟩
  · exact ⟨_, exec_frameR_single s a⟩

/-- The two commands that write one register differ in the frame only. -/
theorem exec_writesOnce {i : Instr} {tx : Byte × Byte} (h : WritesOnce i tx) :
    exec i s = .next (singleCommand Draw.write (.write tx) (fun _ => okRecord) s) := by
  obtain ⟨c, rfl, rfl⟩ | ⟨a, v, rfl, rfl⟩ := h
  · exact exec_wrerr_single s c
  · exact exec_frameW_single s a v

/-- A state `t` that a command of one transaction leaves whatever it transfers is left by each of the five. -/
theorem exec_single_of_forall {t : State}
    (h : ∀ {α : Type} (get : Draw → Option (Except BusErr α)) (entry : Except BusErr α → TraceEntry)
      (ok : α → Result), singleCommand get entry ok s = t) :
    (∀ a, exec (.rdreg a) s = .next t) ∧ (∀ c, exec (.wrerr c) s = .next t) ∧ exec .rderr s = .next t
      ∧ (∀ a v, exec (.frameW a v) s = .next t) ∧ ∀ a, exec (.frameR a) s = .next t := by
  refine ⟨fun a => ?rdreg, fun c => ?wrerr, ?rderr, fun a v => ?frameW, fun a => ?frameR⟩
  case rdreg => rw [exec_rdreg_single, h]
  case wrerr => rw [exec_wrerr_single, h]
  case rderr => rw [exec_rderr_single, h]
  case frameW => rw [exec_frameW_single, h]
  case frameR => rw [exec_frameR_single, h]
end

/-! ### Rows 2 to 5 of the table -/

/-- Settles O34: RDREG is the command of one transaction (`exec_rdreg_single`), which follows the table. -/
theorem rdregFollowsTheTransactionTable : Obligations.RdregFollowsTheTransactionTable := by
  rintro a s r2 r3 ⟨assert, exchange, deassert⟩
  rw [exec_rdreg_single, singleCommand_follows_table _ _ _ assert exchange deassert]

/-- Settles O35: RDERR is the command of one transaction (`exec_rderr_single`), which follows the table; the three
flags are those of `unpackStatus`. -/
theorem rderrFollowsTheTransactionTable : Obligations.RderrFollowsTheTransactionTable := by
  rintro s r2 r3 ⟨assert, exchange, deassert⟩
  rw [exec_rderr_single, singleCommand_follows_table _ _ _ assert exchange deassert]
  rfl

/-- Settles O36: WRERR is the command of one transaction (`exec_wrerr_single`), which follows the table. -/
theorem wrerrFollowsTheTransactionTable : Obligations.WrerrFollowsTheTransactionTable := by
  rintro c s r2 r3 ⟨assert, write, deassert⟩
  rw [exec_wrerr_single, singleCommand_follows_table _ _ _ assert write deassert]

/-- Settles O37: `WR(a, v)` by itself is the command of one transaction (`exec_frameW_single`), which follows the
table. -/
theorem frameWFollowsTheTransactionTable : Obligations.FrameWFollowsTheTransactionTable := by
  rintro a v s r2 r3 ⟨assert, write, deassert⟩
  rw [exec_frameW_single, singleCommand_follows_table _ _ _ assert write deassert]

/-- Settles O38: `RD(a)` by itself is the command of one transaction (`exec_frameR_single`), which follows the
table. -/
theorem frameRFollowsTheTransactionTable : Obligations.FrameRFollowsTheTransactionTable := by
  rintro a s r2 r3 ⟨assert, exchange, deassert⟩
  rw [exec_frameR_single, singleCommand_follows_table _ _ _ assert exchange deassert]

/-! ### A composite command that stops in its first transaction -/

/-- The state in which a composite command begins its first transaction (spec R191, R194). -/
def State.beginLoop (s : State) : State := { s.accept with seq := 0 }

section
variable {s t : State}

theorem exec_wrall_first_raised {r : Raise}
    (h : transact (callTransfer Draw.write (.write (writeFrame .config0 (packConfig0 s.mirror)))) s.beginLoop
      = (.raised r, t)) : exec .wrall s = .next (t.enterError r) := by
  rw [← wr_eq] at h
  rw [exec_wrall_eq, ← State.beginLoop, writeOrder, writeFrom_raised h, finishCommand_raised]

theorem exec_wrall_first_hung
    (h : transact (callTransfer Draw.write (.write (writeFrame .config0 (packConfig0 s.mirror)))) s.beginLoop
      = (.hung, t)) : exec .wrall s = .next t := by
  rw [← wr_eq] at h
  rw [exec_wrall_eq, ← State.beginLoop, writeOrder, writeFrom_hung h, finishCommand_hung]

/-- What a failed `RDALL` leaves in `rxbuf` is a free value (spec D14). -/
theorem exec_rdall_first_raised {r : Raise}
    (h : transact (callTransfer Draw.exchange (.exchange (readFrame .config0))) s.beginLoop = (.raised r, t)) :
    exec .rdall s = .next (State.enterError { t with rxbuf := Config.freeBuffer t.env.calls } r) := by
  have hrd : rd .config0 s.beginLoop = (.raised r, t) := by rw [rd_eq, h, readByte_raised]
  rw [exec_rdall_eq, ← State.beginLoop, readOrder, readFrom_raised hrd, forgetBuffer_raised, finishCommand_raised]

theorem exec_rdall_first_hung
    (h : transact (callTransfer Draw.exchange (.exchange (readFrame .config0))) s.beginLoop = (.hung, t)) :
    exec .rdall s = .next t := by
  have hrd : rd .config0 s.beginLoop = (.hung, t) := by rw [rd_eq, h, readByte_hung]
  rw [exec_rdall_eq, ← State.beginLoop, readOrder, readFrom_hung hrd, forgetBuffer_hung, finishCommand_hung]

/-- No answer to the first assert: a composite command has written `seq` and waits. -/
theorem exec_composite_assert_silent (h : (s.env.drawAt 0).sel = none) :
    exec .wrall s = .next { s with busy := true, phase := .assert, seq := 0 }
      ∧ exec .rdall s = .next { s with busy := true, phase := .assert, seq := 0 } := by
  have waits : s.beginLoop.waiting .assert s.pend s.sel [] = { s with busy := true, phase := .assert, seq := 0 } := by
    simp [State.waiting, State.beginLoop, State.accept]
  rw [← waits]
  exact ⟨exec_wrall_first_hung (transact_assert_silent _ _ s.beginLoop h),
    exec_rdall_first_hung (transact_assert_silent _ _ s.beginLoop h)⟩
end

/-! ### Row 1 of the table -/

/-- Settles O39: a command of one transaction by row 1 of the table (`singleCommand_assert_fails`), a composite one
because its first transaction raises and ends the loop. -/
theorem failedAssertEndsTheCommand : Obligations.FailedAssertEndsTheCommand := by
  intro s e1 assert
  obtain ⟨rdreg, wrerr, rderr, frameW, frameR⟩ :=
    exec_single_of_forall s fun get entry ok => singleCommand_assert_fails get entry ok assert
  refine ⟨rdreg, wrerr, rderr, frameW, frameR, ?wrall, ?rdall⟩
  case wrall => exact exec_wrall_first_raised (transact_assert_fails _ _ _ assert)
  case rdall => exact ⟨_, exec_rdall_first_raised (transact_assert_fails _ _ _ assert)⟩

/-! ### A call that is never answered -/

/-- Settles O41: one course for each call that may stay unanswered (`singleCommand_assert_silent`,
`singleCommand_transfer_silent`, `singleCommand_deassert_silent`); a composite command waits where its first transaction
waits. -/
theorem silentEnvironmentLeavesUnitBusy : Obligations.SilentEnvironmentLeavesUnitBusy := by
  refine ⟨fun s assert => ?assert, fun s assert => ⟨?reads, ?writes, ?rdall, ?wrall⟩,
    fun s assert deassert => ⟨?readsEnd, ?writesEnd⟩⟩
  case assert =>
    obtain ⟨rdreg, wrerr, rderr, frameW, frameR⟩ :=
      exec_single_of_forall s fun get entry ok => singleCommand_assert_silent get entry ok assert
    exact ⟨rdreg, wrerr, rderr, frameW, frameR, exec_composite_assert_silent assert⟩
  case reads =>
    intro exchange i a hi
    obtain ⟨ok, hexec⟩ := exec_readsOnce s hi
    rw [hexec, singleCommand_transfer_silent _ _ _ assert exchange]
  case writes =>
    intro write i hi
    obtain ⟨tx, htx⟩ := exists_writesOnce hi
    rw [exec_writesOnce s htx, singleCommand_transfer_silent _ _ _ assert write]
  case rdall =>
    intro exchange
    exact exec_rdall_first_hung (transact_transfer_silent _ _ _ assert exchange)
  case wrall =>
    intro write
    exact exec_wrall_first_hung (transact_transfer_silent _ _ _ assert write)
  case readsEnd =>
    intro r2 exchange i a hi
    obtain ⟨ok, hexec⟩ := exec_readsOnce s hi
    rw [hexec, singleCommand_deassert_silent _ _ _ assert exchange deassert]
  case writesEnd =>
    intro r2 write i tx hi
    rw [exec_writesOnce s hi, singleCommand_deassert_silent _ _ _ assert write deassert]

end Sys2Proof.Machine
end

section
/-! The select line after a bus command (spec R32, R170, R241): what the course of a transaction says of the line, kept
by the composite loops and by the end of a command. -/

namespace Sys2Proof.Machine

/-- The line at `l` is what the course `c` says: inactive after a value and after a failed transfer, unknown after a
failed select call. A course that waits says nothing. -/
structure LineFollows {α : Type} (c : Course α) (l : SelLine) : Prop where
  done : ∀ v, c = .done v → l = .inactive
  raised : ∀ r, c = .raised r → l = if r.status = .selectErr then .unknown else .inactive

section
variable {α : Type} {l : SelLine}

theorem lineFollows_done {v : α} (h : l = .inactive) : LineFollows (.done v) l := ⟨fun _ _ => h, nofun⟩

theorem lineFollows_hung : LineFollows (.hung : Course α) l := ⟨nofun, nofun⟩

theorem lineFollows_select (e : SelErr) : LineFollows (.raised (.select e) : Course α) .unknown :=
  ⟨nofun, by rintro _ ⟨⟩; rfl⟩

theorem lineFollows_bus (e : BusErr) : LineFollows (.raised (.bus e) : Course α) .inactive :=
  ⟨nofun, by rintro _ ⟨⟩; rfl⟩

/-- The line after the deassert, by whether it failed (spec R170, cases 2 to 5). -/
theorem lineFollows_closing (r2 : Except BusErr α) (r3 : Except SelErr Unit) :
    LineFollows (closingCourse r2 r3) (lineAfterDeassert r3) := by
  rcases r3 with e3 | _
  · rw [closingCourse, deassertFailure_eq]
    exact lineFollows_select e3
  · rcases r2 with e2 | v
    · exact lineFollows_bus e2
    · exact lineFollows_done rfl

theorem transact_lineFollows (get : Draw → Option (Except BusErr α)) (entry : Except BusErr α → TraceEntry)
    (s : State) :
    LineFollows (transact (callTransfer get entry) s).1 (transact (callTransfer get entry) s).2.sel := by
  rcases transact_cases get entry s with ⟨_, hx⟩ | ⟨e1, _, hx⟩ | ⟨_, _, hx⟩ | ⟨_, _, _, _, hx⟩
    | ⟨r2, r3, _, _, _, hx⟩ <;> rw [hx]
  case inr.inl => exact lineFollows_select e1
  case inr.inr.inr.inr => exact lineFollows_closing r2 r3
  all_goals exact lineFollows_hung
end

section
variable {s : State}

theorem wr_lineFollows (a : RegAddr) (v : Byte) (s : State) : LineFollows (wr a v s).1 (wr a v s).2.sel :=
  transact_lineFollows _ _ s

/-- A read ends as its transaction ends. -/
theorem rd_lineFollows (a : RegAddr) (s : State) : LineFollows (rd a s).1 (rd a s).2.sel := by
  have line := transact_lineFollows Draw.exchange (.exchange (readFrame a)) s
  rw [rd_eq]
  rcases hx : transact (callTransfer Draw.exchange (.exchange (readFrame a))) s with ⟨rx | r | _, t⟩ <;>
    rw [hx] at line
  · exact lineFollows_done (line.done rx rfl)
  · exact ⟨nofun, by rintro _ ⟨⟩; exact line.raised r rfl⟩
  · exact lineFollows_hung

/-- The line after the loop of `WRALL` is the one its last transaction left; `hs` is for a loop with nothing left. -/
theorem writeFrom_lineFollows {order : List (RegAddr × (Mirror → Byte))} (hs : order = [] → s.sel = .inactive) :
    LineFollows (writeFrom order s).1 (writeFrom order s).2.sel := by
  induction order generalizing s with
  | nil => exact lineFollows_done (hs rfl)
  | cons x rest ih =>
    obtain ⟨a, pack⟩ := x
    have line := wr_lineFollows a (pack s.mirror) s
    rcases hx : wr a (pack s.mirror) s with ⟨u | r | _, t⟩ <;> rw [hx] at line
    · rw [writeFrom_done hx]
      exact ih fun _ => line.done u rfl
    · rw [writeFrom_raised hx]
      exact line
    · rw [writeFrom_hung hx]
      exact line

/-- The same for the loop of `RDALL`. -/
theorem readFrom_lineFollows {order : List RegAddr} (hs : order = [] → s.sel = .inactive) :
    LineFollows (readFrom order s).1 (readFrom order s).2.sel := by
  induction order generalizing s with
  | nil => exact lineFollows_done (hs rfl)
  | cons a rest ih =>
    have line := rd_lineFollows a s
    rcases hx : rd a s with ⟨b | r | _, t⟩ <;> rw [hx] at line
    · rw [readFrom_done hx]
      exact ih fun _ => line.done b rfl
    · rw [readFrom_raised hx]
      exact ⟨nofun, by rintro _ ⟨⟩; exact line.raised r rfl⟩
    · rw [readFrom_hung hx]
      exact lineFollows_hung
end

theorem forgetBuffer_lineFollows {c : Course Unit × State} (h : LineFollows c.1 c.2.sel) :
    LineFollows (forgetBuffer c).1 (forgetBuffer c).2.sel := by
  obtain ⟨_, _, hx⟩ | ⟨_, hx⟩ := forgetBuffer_cases c <;> rw [hx] <;> exact h

/-- The line is the one the record `r` presented by the unit stands for, if the unit has ended its command. -/
def LineOfRecord (t : State) : Prop :=
  t.busy = false → ∀ r, t.result = some r → t.sel = if r.status = .selectErr then .unknown else .inactive

/-- A bus command presents the record of its course, so the line is that of the record. -/
theorem finishCommand_lineOfRecord {α : Type} {ok : State → α → Result} {c : Course α × State}
    (hok : ∀ t v, (ok t v).status = .ok) (hbusy : c.2.busy = true) (h : LineFollows c.1 c.2.sel) :
    LineOfRecord (finishCommand ok c) := by
  intro hended r hr
  rcases c with ⟨v | e | _, t⟩
  · cases hr
    rw [hok]
    exact h.done v rfl
  · cases hr
    exact h.raised e rfl
  · exact absurd (hbusy.symm.trans hended) (by decide)

/-- Every bus command. -/
theorem exec_lineOfRecord {i : Instr} {s t : State} (hi : makesCalls i = true) (hexec : exec i s = .next t) :
    LineOfRecord t := by
  obtain ⟨a, rfl⟩ | ⟨c, rfl⟩ | rfl | rfl | rfl | ⟨a, v, rfl⟩ | ⟨a, rfl⟩ := busCommand_cases hi
  · cases (exec_rdreg_eq s a).symm.trans hexec
    exact finishCommand_lineOfRecord (fun _ _ => rfl) (rd_busy a) (rd_lineFollows a _)
  · cases (exec_wrerr_eq s c).symm.trans hexec
    exact finishCommand_lineOfRecord (fun _ _ => rfl) (wr_busy _ _) (wr_lineFollows _ _ _)
  · cases (exec_wrall_eq s).symm.trans hexec
    exact finishCommand_lineOfRecord (fun _ _ => rfl) (writeFrom_busy _ rfl) (writeFrom_lineFollows nofun)
  · cases (exec_rdall_eq s).symm.trans hexec
    exact finishCommand_lineOfRecord (fun _ _ => rfl) ((forgetBuffer_busy _).trans (readFrom_busy _ rfl))
      (forgetBuffer_lineFollows (readFrom_lineFollows nofun))
  · cases (exec_rderr_eq s).symm.trans hexec
    exact finishCommand_lineOfRecord (fun _ _ => rfl) (rd_busy _) (rd_lineFollows _ _)
  · cases (exec_frameW_eq s a v).symm.trans hexec
    exact finishCommand_lineOfRecord (fun _ _ => rfl) (wr_busy a v) (wr_lineFollows a v _)
  · cases (exec_frameR_eq s a).symm.trans hexec
    exact finishCommand_lineOfRecord (fun _ _ => rfl) (rd_busy a) (rd_lineFollows a _)

/-- Settles O50: the line an ended bus command leaves is that of its record (`exec_lineOfRecord`). -/
theorem selectLineAfterABusCommand : Obligations.SelectLineAfterABusCommand :=
  fun _ _ _ r hi hexec hended hr => exec_lineOfRecord hi hexec hended r hr

end Sys2Proof.Machine
end

section
/-! The composite commands (spec R190 to R194): where a loop stands after transactions that succeeded, the transaction
that ends it, and the state it leaves. -/

namespace Sys2Proof.Machine

/-! ### The table of R170 and the course of a transaction -/

section
variable {α : Type} (entry : Except BusErr α → TraceEntry) (r2 : Except BusErr α) (r3 : Except SelErr Unit)

theorem courseRow_calls : (courseRow entry r2 r3).calls = [.selAssert (.ok ()), entry r2, .selDeassert r3] := by
  cases r2 <;> cases r3 <;> rfl

theorem courseRow_line : (courseRow entry r2 r3).line = lineAfterDeassert r3 := by
  cases r2 <;> cases r3 <;> rfl

variable {entry r2 r3} in
theorem closingCourse_of_error {r : Raise} (h : (courseRow entry r2 r3).outcome = .error r) :
    closingCourse r2 r3 = .raised r := by
  cases r2 <;> cases r3 <;> cases h <;> rfl

/-- Only a transaction whose transfer and deassert both succeeded raises nothing. -/
theorem exists_courseRow_error {r2 : Except BusErr Unit} (entry : Except BusErr Unit → TraceEntry)
    (h : r2 ≠ .ok () ∨ r3 ≠ .ok ()) : ∃ r, (courseRow entry r2 r3).outcome = .error r := by
  rcases r2 with e2 | _ <;> rcases r3 with e3 | _
  case ok.ok => exact absurd h (by simp)
  all_goals exact ⟨_, rfl⟩

theorem resultOf_error (ok : α → Result) (r : Raise) : resultOf ok (.error r) = Result.failed r := by
  cases r <;> rfl
end

/-! ### Where a loop stands -/

/-- A composite command begun at `s` stands at `u` before its transaction `k`: the `k` transactions made succeeded with
`calls`, and `rxbuf` is `buf`. Before the first one `phase`, `pend` and `SEL` are still those of `s`. -/
structure LoopAt (s : State) (k : Nat) (buf : Vector Byte 10) (calls : List TraceEntry) (u : State) : Prop where
  eq : ∃ p pend line, u = { s.beginLoop.waiting p pend line calls with seq := k, rxbuf := buf }
  length : calls.length = 3 * k
  closed : k ≠ 0 → u.phase = .idle ∧ u.pend = none ∧ u.sel = .inactive

section
variable {s u : State} {k : Nat} {buf : Vector Byte 10} {calls more : List TraceEntry}

theorem loopAt_beginLoop (s : State) : LoopAt s 0 s.rxbuf [] s.beginLoop :=
  ⟨⟨s.phase, s.pend, s.sel, by simp [State.waiting, State.beginLoop]⟩, rfl, absurd rfl⟩

theorem LoopAt.mirror (h : LoopAt s k buf calls u) : u.mirror = s.mirror := by
  obtain ⟨_, _, _, rfl⟩ := h.eq
  rfl

theorem LoopAt.seq (h : LoopAt s k buf calls u) : u.seq = k := by
  obtain ⟨_, _, _, rfl⟩ := h.eq
  rfl

theorem LoopAt.rxbuf (h : LoopAt s k buf calls u) : u.rxbuf = buf := by
  obtain ⟨_, _, _, rfl⟩ := h.eq
  rfl

/-- Each transaction made was answered three times. -/
theorem LoopAt.drawAt (h : LoopAt s k buf calls u) (j : Nat) : u.env.drawAt j = s.env.drawAt (3 * k + j) := by
  obtain ⟨_, _, _, rfl⟩ := h.eq
  exact (Env.drawAt_advance _ _ _).trans (by rw [h.length]; rfl)

/-- One more transaction that succeeded. -/
theorem LoopAt.next (h : LoopAt s k buf calls u) (hmore : more.length = 3) :
    LoopAt s (k + 1) buf (calls ++ more) { u.closed none .inactive more with seq := u.seq + 1 } := by
  refine ⟨⟨.idle, none, .inactive, ?_⟩, ?_, fun _ => ⟨rfl, rfl, rfl⟩⟩
  · obtain ⟨_, _, _, rfl⟩ := h.eq
    simp [State.closed, State.waiting]
  · rw [List.length_append, h.length, hmore, Nat.mul_succ]

theorem LoopAt.withBuffer (h : LoopAt s k buf calls u) (buf' : Vector Byte 10) :
    LoopAt s k buf' calls { u with rxbuf := buf' } := by
  refine ⟨?_, h.length, h.closed⟩
  obtain ⟨p, pend, line, rfl⟩ := h.eq
  exact ⟨p, pend, line, rfl⟩

/-- The error of the transaction that ends the loop (spec R209). -/
theorem LoopAt.enterError (h : LoopAt s k buf calls u) (pend : Option BusErr) (line : SelLine) (r : Raise) :
    (u.closed pend line more).enterError r
      = { s.after (calls ++ more) line (Result.failed r) with seq := k, rxbuf := buf } := by
  obtain ⟨_, _, _, rfl⟩ := h.eq
  simp [State.enterError, State.closed, State.waiting, State.beginLoop, State.accept, State.after]

/-- The end of a command whose transactions all succeeded. -/
theorem LoopAt.present (h : LoopAt s k buf calls u) (hk : k ≠ 0) (r : Result) :
    u.present r = { s.after calls .inactive r with seq := k, rxbuf := buf } := by
  obtain ⟨hphase, hpend, hsel⟩ := h.closed hk
  obtain ⟨p, pend, line, rfl⟩ := h.eq
  cases hphase; cases hpend; cases hsel
  rfl

section
variable {α : Type} {get : Draw → Option (Except BusErr α)} {entry : Except BusErr α → TraceEntry}

/-- The assert of the next transaction fails (spec R170, case 1). -/
theorem LoopAt.transact_assert_fails (h : LoopAt s k buf calls u) {e1 : SelErr}
    (h0 : (s.env.drawAt (3 * k)).sel = some (.error e1)) :
    transact (callTransfer get entry) u
      = (.raised (.select e1), u.closed u.pend .unknown [.selAssert (.error e1)]) := by
  rw [← Nat.add_zero (3 * k), ← h.drawAt] at h0
  exact Machine.transact_assert_fails get entry u h0

/-- The three calls of the next transaction are answered (spec R170, cases 2 to 5). -/
theorem LoopAt.transact_closes (h : LoopAt s k buf calls u) {r2 : Except BusErr α} {r3 : Except SelErr Unit}
    (h0 : (s.env.drawAt (3 * k)).sel = some (.ok ())) (h1 : get (s.env.drawAt (3 * k + 1)) = some r2)
    (h2 : (s.env.drawAt (3 * k + 2)).sel = some r3) :
    transact (callTransfer get entry) u
      = (closingCourse r2 r3,
          u.closed none (lineAfterDeassert r3) [.selAssert (.ok ()), entry r2, .selDeassert r3]) := by
  rw [← Nat.add_zero (3 * k), ← h.drawAt] at h0
  rw [← h.drawAt] at h1 h2
  exact Machine.transact_closes get entry u h0 h1 h2
end

/-! ### The loop of `WRALL` -/

/-- The row of `ORDER_W` at index `k`, and its frame. -/
theorem exists_writeOrder_row (m : Mirror) (hk : k < 9) :
    ∃ a pack, writeOrder.drop k = (a, pack) :: writeOrder.drop (k + 1)
      ∧ (writeFrames m)[k]? = some (writeFrame a (pack m)) := by
  have row : k < writeOrder.length := hk
  refine ⟨writeOrder[k].1, writeOrder[k].2, List.drop_eq_getElem_cons row, ?_⟩
  rw [writeFrames_eq_map, List.getElem?_map, List.getElem?_eq_getElem row]
  rfl

/-- The calls of the first `k` transactions of `WRALL`, when they succeed. -/
def writesBefore (s : State) (k : Nat) : List TraceEntry := ((writeFrames s.mirror).take k).flatMap writeCalls

theorem writesBefore_succ {tx : Byte × Byte} (h : (writeFrames s.mirror)[k]? = some tx) :
    writesBefore s (k + 1) = writesBefore s k ++ writeCalls tx := by
  simp [writesBefore, List.take_add_one, h]

theorem writesBefore_nine (s : State) : writesBefore s 9 = (writeFrames s.mirror).flatMap writeCalls := rfl

/-- While its transactions succeed the loop of `WRALL` walks the order (spec R191). -/
theorem writeFrom_reaches (hk : k ≤ 9) (hs : WritesSucceed s k) :
    ∃ u, LoopAt s k s.rxbuf (writesBefore s k) u
      ∧ writeFrom writeOrder s.beginLoop = writeFrom (writeOrder.drop k) u := by
  induction k with
  | zero => exact ⟨s.beginLoop, loopAt_beginLoop s, rfl⟩
  | succ k ih =>
    obtain ⟨u, loop, hu⟩ := ih (Nat.le_of_succ_le hk) fun j hj => hs j (Nat.lt_succ_of_lt hj)
    obtain ⟨a, pack, hdrop, hframe⟩ := exists_writeOrder_row s.mirror hk
    obtain ⟨assert, write, deassert⟩ := hs k (Nat.lt_succ_self k)
    have sent : wr a (pack u.mirror) u = _ := loop.transact_closes assert write deassert
    rw [hu, hdrop, writeFrom_done sent, loop.mirror, writesBefore_succ hframe]
    exact ⟨_, loop.next rfl, rfl⟩

/-- The transaction of index `k` raises, and `WRALL` with it. -/
theorem exec_wrall_raised {tx : Byte × Byte} (htx : (writeFrames s.mirror)[k]? = some tx) (hs : WritesSucceed s k) :
    ∃ u, LoopAt s k s.rxbuf (writesBefore s k) u ∧ ∀ {r t},
      transact (callTransfer Draw.write (.write tx)) u = (.raised r, t) → exec .wrall s = .next (t.enterError r) := by
  have hk : k < 9 := (List.getElem?_eq_some_iff.mp htx).1
  obtain ⟨u, loop, hu⟩ := writeFrom_reaches (Nat.le_of_lt hk) hs
  obtain ⟨a, pack, hdrop, hframe⟩ := exists_writeOrder_row s.mirror hk
  cases htx.symm.trans hframe
  refine ⟨u, loop, fun {r t} hr => ?_⟩
  rw [← loop.mirror] at hr
  rw [exec_wrall_eq, ← State.beginLoop, hu, hdrop, writeFrom_raised hr, finishCommand_raised]

/-! ### The loop of `RDALL` -/

theorem exists_readOrder_row (hk : k < 10) :
    ∃ a, readOrder.drop k = a :: readOrder.drop (k + 1) ∧ readFrame a = readFrameAt k := by
  have row : k < readOrder.length := hk
  have ascending : ∀ j : Fin 10, readOrder[j].number = j := by decide
  refine ⟨readOrder[k], List.drop_eq_getElem_cons row, ?_⟩
  rw [readFrame_eq]
  exact congrArg readFrameAt (ascending ⟨k, hk⟩)

/-- The calls of the first `k` transactions of `RDALL`, when they succeed with the bytes `rx`. -/
def readsBefore (rx : Nat → Byte × Byte) (k : Nat) : List TraceEntry :=
  (List.range k).flatMap fun j => readCalls (readFrameAt j) (rx j)

theorem readsBefore_succ (rx : Nat → Byte × Byte) (k : Nat) :
    readsBefore rx (k + 1) = readsBefore rx k ++ readCalls (readFrameAt k) (rx k) := by
  simp [readsBefore, List.range_succ]

/-- The first `k` entries of the buffer are the second bytes received (spec R194). -/
def HoldsReads (rx : Nat → Byte × Byte) (k : Nat) (buf : Vector Byte 10) : Prop :=
  ∀ j (_ : j < 10), j < k → buf[j] = (rx j).2

section
variable {rx : Nat → Byte × Byte}

theorem HoldsReads.store (h : HoldsReads rx k buf) : HoldsReads rx (k + 1) (buf.setIfInBounds k (rx k).2) := by
  intro j hj hlt
  rw [Vector.getElem_setIfInBounds]
  split_ifs with heq
  · rw [heq]
  · exact h j hj (by omega)

theorem HoldsReads.eq_ofFn (h : HoldsReads rx 10 buf) : buf = Vector.ofFn fun j => (rx j).2 :=
  Vector.ext fun j hj => by rw [h j hj hj, Vector.getElem_ofFn]

/-- While its transactions succeed the loop of `RDALL` walks the order and fills the buffer (spec R194). -/
theorem readFrom_reaches (hk : k ≤ 10) (hs : ReadsSucceed s k rx) :
    ∃ u buf, HoldsReads rx k buf ∧ LoopAt s k buf (readsBefore rx k) u
      ∧ readFrom readOrder s.beginLoop = readFrom (readOrder.drop k) u := by
  induction k with
  | zero => exact ⟨s.beginLoop, s.rxbuf, nofun, loopAt_beginLoop s, rfl⟩
  | succ k ih =>
    obtain ⟨u, buf, holds, loop, hu⟩ := ih (Nat.le_of_succ_le hk) fun j hj => hs j (Nat.lt_succ_of_lt hj)
    obtain ⟨a, hdrop, hframe⟩ := exists_readOrder_row hk
    obtain ⟨assert, exchange, deassert⟩ := hs k (Nat.lt_succ_self k)
    have received : rd a u = (.done (rx k).2, u.closed none .inactive (readCalls (readFrameAt k) (rx k))) := by
      rw [rd_eq, hframe, loop.transact_closes assert exchange deassert]
      rfl
    have stored : u.rxbuf.setIfInBounds u.seq (rx k).2 = buf.setIfInBounds k (rx k).2 := by
      rw [loop.rxbuf, loop.seq]
    rw [hu, hdrop, readFrom_done received, readsBefore_succ]
    exact ⟨_, _, stored ▸ holds.store, (loop.next rfl).withBuffer _, rfl⟩

/-- The transaction of index `k` raises, and `RDALL` with it; what it leaves in `rxbuf` is a free value (spec D14). -/
theorem exec_rdall_raised (hk : k < 10) (hs : ReadsSucceed s k rx) :
    ∃ u buf, LoopAt s k buf (readsBefore rx k) u ∧ ∀ {r t},
      transact (callTransfer Draw.exchange (.exchange (readFrameAt k))) u = (.raised r, t) →
        ∃ b, exec .rdall s = .next { t.enterError r with rxbuf := b } := by
  obtain ⟨u, buf, _, loop, hu⟩ := readFrom_reaches (Nat.le_of_lt hk) hs
  obtain ⟨a, hdrop, hframe⟩ := exists_readOrder_row hk
  refine ⟨u, buf, loop, fun {r t} hr => ⟨Config.freeBuffer t.env.calls, ?_⟩⟩
  have raised : rd a u = (.raised r, t) := by rw [rd_eq, hframe, hr, readByte_raised]
  rw [exec_rdall_eq, ← State.beginLoop, hu, hdrop, readFrom_raised raised, forgetBuffer_raised, finishCommand_raised]
  rfl
end
end

/-! ### Every transaction succeeds -/

/-- Settles O42: the loop reaches the end of its order (`writeFrom_reaches`), where the command presents its record. -/
theorem wrallSendsTheNineImagesInOrder : Obligations.WrallSendsTheNineImagesInOrder := by
  intro s hs
  obtain ⟨u, loop, hu⟩ := writeFrom_reaches le_rfl hs
  calc exec .wrall s = .next (finishCommand (fun _ _ => Result.done) (writeFrom (writeOrder.drop 9) u)) := by
        rw [exec_wrall_eq, ← State.beginLoop, hu]
    _ = .next (u.present okRecord) := rfl
    _ = _ := by rw [loop.present (by decide), writesBefore_nine]; rfl

/-- Settles O45: the loop reaches the end of its order (`readFrom_reaches`), where the buffer holds the ten second bytes
(`HoldsReads.eq_ofFn`). -/
theorem rdallReadsTheTenRegistersInOrder : Obligations.RdallReadsTheTenRegistersInOrder := by
  intro s rx hs
  obtain ⟨u, buf, holds, loop, hu⟩ := readFrom_reaches le_rfl hs
  calc exec .rdall s
      = .next (finishCommand (fun t _ => Result.buffer t.rxbuf) (forgetBuffer (readFrom (readOrder.drop 10) u))) := by
        rw [exec_rdall_eq, ← State.beginLoop, hu]
    _ = .next (u.present (bufRecord u.rxbuf)) := rfl
    _ = _ := by rw [loop.present (by decide), loop.rxbuf, holds.eq_ofFn, readsBefore]

/-! ### The first failure -/

/-- Settles O44: the failed transaction raises what its row of the table says, and the command ends there
(`exec_wrall_raised`). -/
theorem wrallStopsAtItsFirstFailure : Obligations.WrallStopsAtItsFirstFailure := by
  intro s k tx htx hs
  obtain ⟨u, loop, stops⟩ := exec_wrall_raised htx hs
  refine ⟨fun e1 assert => ?assertFails, fun r2 r3 r answers failed => ?closes⟩
  case assertFails =>
    rw [stops (loop.transact_assert_fails assert), loop.enterError]
    rfl
  case closes =>
    obtain ⟨assert, write, deassert⟩ := answers
    have raised := loop.transact_closes (entry := .write tx) assert write deassert
    rw [closingCourse_of_error failed] at raised
    rw [stops raised, loop.enterError, courseRow_calls, courseRow_line, resultOf_error]
    rfl

/-- Settles O46: as for `WRALL` (`exec_rdall_raised`); `b` is what the failure leaves in `rxbuf` (spec D14). -/
theorem rdallStopsAtItsFirstFailure : Obligations.RdallStopsAtItsFirstFailure := by
  intro s rx k hk hs
  obtain ⟨u, buf, loop, stops⟩ := exec_rdall_raised hk hs
  refine ⟨fun e1 assert => ?assertFails, fun r2 r3 r answers failed => ?closes⟩
  case assertFails =>
    obtain ⟨b, hexec⟩ := stops (loop.transact_assert_fails assert)
    rw [hexec, loop.enterError]
    exact ⟨b, rfl⟩
  case closes =>
    obtain ⟨assert, exchange, deassert⟩ := answers
    have raised := loop.transact_closes (entry := .exchange (readFrameAt k)) assert exchange deassert
    rw [closingCourse_of_error failed] at raised
    obtain ⟨b, hexec⟩ := stops raised
    rw [hexec, loop.enterError, courseRow_calls, courseRow_line, resultOf_error]
    exact ⟨b, rfl⟩

/-- Settles O43: the traces of the states that O42 and O44 give; a transaction that does not succeed raises
(`exists_courseRow_error`). -/
theorem wrallTraceAndFirstFailure : Obligations.WrallTraceAndFirstFailure := by
  refine ⟨fun s hs => ⟨_, wrallSendsTheNineImagesInOrder s hs, rfl, rfl⟩, fun s k tx htx hs => ?_⟩
  obtain ⟨u, loop, _⟩ := exec_wrall_raised htx hs
  obtain ⟨assertFails, closes⟩ := wrallStopsAtItsFirstFailure s k tx htx hs
  refine ⟨loop.length, fun e1 assert => ⟨_, assertFails e1 assert, (List.append_assoc ..).symm⟩,
    fun r2 r3 answers failed => ?_⟩
  obtain ⟨r, hr⟩ := exists_courseRow_error r3 (.write tx) failed
  refine ⟨_, closes r2 r3 r answers hr, ?_⟩
  rw [← courseRow_calls (.write tx) r2 r3]
  exact (List.append_assoc ..).symm

end Sys2Proof.Machine
end

section
/-! Two runs of one instruction whose environments answer alike (spec R196, R178): what a transaction, a composite loop
and the end of a command do with the data never reaches the shapes of the calls. -/

namespace Sys2Proof.Machine

/-! ### Answers -/

/-- Two answers alike are both missing, or both there and both `ok` or both failures. -/
theorem answer_cases {ε α : Type} {o1 o2 : Option (Except ε α)} (h : o1.map answeredOk = o2.map answeredOk) :
    (o1 = none ∧ o2 = none) ∨ ∃ r1 r2, o1 = some r1 ∧ o2 = some r2 ∧ answeredOk r1 = answeredOk r2 := by
  rcases o1 with _ | r1 <;> rcases o2 with _ | r2 <;> simp at h ⊢
  exact h

/-! ### Two runs -/

/-- Two runs of `i`, from `s1` and from `s2`, stand alike at `t1` and `t2`: they have added calls of the same shapes,
the answers to come are alike, and both are in the command or neither is, at the same `seq` if it is composite. -/
structure RunsAlike (i : Instr) (s1 s2 t1 t2 : State) : Prop where
  calls : ∃ c, t1.trace.map shapeOf = s1.trace.map shapeOf ++ c ∧ t2.trace.map shapeOf = s2.trace.map shapeOf ++ c
  answers : ∀ k, SameAnswers (t1.env.drawAt k) (t2.env.drawAt k)
  busy : t1.busy = t2.busy
  seq : i = .wrall ∨ i = .rdall → t1.seq = t2.seq

/-- Two courses end alike, with whatever values and errors, in states that stand alike. -/
inductive EndsAlike (i : Instr) (s1 s2 : State) {α : Type} : Course α × State → Course α × State → Prop where
  | done (v1 v2 : α) {t1 t2 : State} (runs : RunsAlike i s1 s2 t1 t2) : EndsAlike i s1 s2 (.done v1, t1) (.done v2, t2)
  | raised (r1 r2 : Raise) {t1 t2 : State} (runs : RunsAlike i s1 s2 t1 t2) :
      EndsAlike i s1 s2 (.raised r1, t1) (.raised r2, t2)
  | hung {t1 t2 : State} (runs : RunsAlike i s1 s2 t1 t2) : EndsAlike i s1 s2 (.hung, t1) (.hung, t2)

section
variable {i : Instr} {s1 s2 t1 t2 : State}

/-- No call made yet in either run. -/
theorem runsAlike_of_no_calls (h1 : t1.trace = s1.trace) (h2 : t2.trace = s2.trace)
    (answers : ∀ k, SameAnswers (t1.env.drawAt k) (t2.env.drawAt k)) (busy : t1.busy = t2.busy)
    (seq : i = .wrall ∨ i = .rdall → t1.seq = t2.seq) : RunsAlike i s1 s2 t1 t2 :=
  ⟨⟨[], by simp [h1], by simp [h2]⟩, answers, busy, seq⟩

/-- A command of one transaction begins: the values of `seq` do not matter. -/
theorem runsAlike_accept (hi : ¬ (i = .wrall ∨ i = .rdall))
    (answers : ∀ k, SameAnswers (s1.env.drawAt k) (s2.env.drawAt k)) : RunsAlike i s1 s2 s1.accept s2.accept :=
  runsAlike_of_no_calls rfl rfl answers rfl fun h => absurd h hi

/-- A composite command begins, at `seq` 0. -/
theorem runsAlike_beginLoop (answers : ∀ k, SameAnswers (s1.env.drawAt k) (s2.env.drawAt k)) :
    RunsAlike i s1 s2 s1.beginLoop s2.beginLoop :=
  runsAlike_of_no_calls rfl rfl answers rfl fun _ => rfl

theorem RunsAlike.waiting (h : RunsAlike i s1 s2 t1 t2) {p1 p2 : Phase} {pend1 pend2 : Option BusErr}
    {line1 line2 : SelLine} {calls1 calls2 : List TraceEntry} (hcalls : calls1.map shapeOf = calls2.map shapeOf) :
    RunsAlike i s1 s2 (t1.waiting p1 pend1 line1 calls1) (t2.waiting p2 pend2 line2 calls2) := by
  obtain ⟨⟨c, h1, h2⟩, answers, busy, seq⟩ := h
  have length : calls1.length = calls2.length := by simpa using congrArg List.length hcalls
  refine ⟨⟨c ++ calls1.map shapeOf, ?_, ?_⟩, fun k => ?_, busy, seq⟩
  · simp [State.waiting, h1]
  · simp [State.waiting, h2, hcalls]
  · simp only [State.waiting, Env.drawAt_advance, length]
    exact answers _

/-! ### The transaction -/

/-- The ends of two transactions whose calls were all answered, alike. -/
theorem EndsAlike.closing {α : Type} {r2 r2' : Except BusErr α} {r3 r3' : Except SelErr Unit}
    (h2 : answeredOk r2 = answeredOk r2') (h3 : answeredOk r3 = answeredOk r3') (h : RunsAlike i s1 s2 t1 t2) :
    EndsAlike i s1 s2 (closingCourse r2 r3, t1) (closingCourse r2' r3', t2) := by
  rcases r3 with e3 | _ <;> rcases r3' with e3' | _ <;> cases h3
  · exact .raised _ _ h
  · rcases r2 with e2 | v <;> rcases r2' with e2' | v' <;> cases h2
    · exact .raised _ _ h
    · exact .done v v' h

theorem RunsAlike.transact {α : Type} {get : Draw → Option (Except BusErr α)}
    {entry1 entry2 : Except BusErr α → TraceEntry}
    (hget : ∀ {d1 d2}, SameAnswers d1 d2 → (get d1).map answeredOk = (get d2).map answeredOk)
    (hentry : ∀ {r1 r2}, answeredOk r1 = answeredOk r2 → shapeOf (entry1 r1) = shapeOf (entry2 r2))
    (h : RunsAlike i s1 s2 t1 t2) :
    EndsAlike i s1 s2 (transact (callTransfer get entry1) t1) (transact (callTransfer get entry2) t2) := by
  obtain ⟨a1, a2⟩ | ⟨r1, r1', a1, a2, assert⟩ := answer_cases (h.answers 0).1
  · rw [transact_assert_silent _ _ _ a1, transact_assert_silent _ _ _ a2]
    exact .hung (h.waiting rfl)
  rcases r1 with e1 | _ <;> rcases r1' with e1' | _ <;> cases assert
  · rw [transact_assert_fails _ _ _ a1, transact_assert_fails _ _ _ a2]
    exact .raised _ _ (h.waiting rfl)
  obtain ⟨x1, x2⟩ | ⟨r2, r2', x1, x2, transfer⟩ := answer_cases (hget (h.answers 1))
  · rw [transact_transfer_silent _ _ _ a1 x1, transact_transfer_silent _ _ _ a2 x2]
    exact .hung (h.waiting rfl)
  obtain ⟨d1, d2⟩ | ⟨r3, r3', d1, d2, deassert⟩ := answer_cases (h.answers 2).1
  · rw [transact_deassert_silent _ _ _ a1 x1 d1, transact_deassert_silent _ _ _ a2 x2 d2]
    exact .hung (h.waiting (by simp [hentry transfer]))
  · rw [transact_closes _ _ _ a1 x1 d1, transact_closes _ _ _ a2 x2 d2]
    have last : shapeOf (.selDeassert r3) = shapeOf (.selDeassert r3') := congrArg CallShape.deassert deassert
    exact .closing transfer deassert (h.waiting (by simp [hentry transfer, last]))

/-- A write to the same address, of whatever bytes. -/
theorem RunsAlike.wr (h : RunsAlike i s1 s2 t1 t2) (a : RegAddr) (v1 v2 : Byte) :
    EndsAlike i s1 s2 (wr a v1 t1) (wr a v2 t2) :=
  h.transact (fun answers => answers.2.1) fun answered => congrArg (CallShape.write _) answered

theorem EndsAlike.readByte {c1 c2 : Course (Byte × Byte) × State} (h : EndsAlike i s1 s2 c1 c2) :
    EndsAlike i s1 s2 (readByte c1) (readByte c2) := by
  cases h with
  | done rx1 rx2 runs => exact .done rx1.2 rx2.2 runs
  | raised r1 r2 runs => exact .raised r1 r2 runs
  | hung runs => exact .hung runs

theorem RunsAlike.rd (h : RunsAlike i s1 s2 t1 t2) (a : RegAddr) : EndsAlike i s1 s2 (rd a t1) (rd a t2) :=
  EndsAlike.readByte <| h.transact (entry1 := .exchange (readFrame a)) (entry2 := .exchange (readFrame a))
    (fun answers => answers.2.2) fun answered => congrArg (CallShape.exchange _) answered

/-! ### The composite commands -/

/-- The variables of a composite loop, set to the same `seq` in both runs. -/
theorem RunsAlike.withLoopVariables (h : RunsAlike i s1 s2 t1 t2) {k1 k2 : Nat} (b1 b2 : Vector Byte 10)
    (hk : k1 = k2) : RunsAlike i s1 s2 { t1 with seq := k1, rxbuf := b1 } { t2 with seq := k2, rxbuf := b2 } :=
  ⟨h.calls, h.answers, h.busy, fun _ => hk⟩

theorem RunsAlike.writeFrom (hi : i = .wrall ∨ i = .rdall) (order : List (RegAddr × (Mirror → Byte)))
    (h : RunsAlike i s1 s2 t1 t2) : EndsAlike i s1 s2 (writeFrom order t1) (writeFrom order t2) := by
  induction order generalizing t1 t2 with
  | nil => exact .done _ _ h
  | cons x rest ih =>
    obtain ⟨a, pack⟩ := x
    have sent := h.wr a (pack t1.mirror) (pack t2.mirror)
    generalize hx1 : Machine.wr a (pack t1.mirror) t1 = c1 at sent
    generalize hx2 : Machine.wr a (pack t2.mirror) t2 = c2 at sent
    cases sent with
    | done _ _ runs =>
      rw [writeFrom_done hx1, writeFrom_done hx2]
      exact ih (runs.withLoopVariables _ _ (congrArg (· + 1) (runs.seq hi)))
    | raised r1 r2 runs =>
      rw [writeFrom_raised hx1, writeFrom_raised hx2]
      exact .raised r1 r2 runs
    | hung runs =>
      rw [writeFrom_hung hx1, writeFrom_hung hx2]
      exact .hung runs

theorem RunsAlike.readFrom (hi : i = .wrall ∨ i = .rdall) (order : List RegAddr)
    (h : RunsAlike i s1 s2 t1 t2) : EndsAlike i s1 s2 (readFrom order t1) (readFrom order t2) := by
  induction order generalizing t1 t2 with
  | nil => exact .done _ _ h
  | cons a rest ih =>
    have received := h.rd a
    generalize hx1 : Machine.rd a t1 = c1 at received
    generalize hx2 : Machine.rd a t2 = c2 at received
    cases received with
    | done _ _ runs =>
      rw [readFrom_done hx1, readFrom_done hx2]
      exact ih (runs.withLoopVariables _ _ (congrArg (· + 1) (runs.seq hi)))
    | raised r1 r2 runs =>
      rw [readFrom_raised hx1, readFrom_raised hx2]
      exact .raised r1 r2 runs
    | hung runs =>
      rw [readFrom_hung hx1, readFrom_hung hx2]
      exact .hung runs

theorem EndsAlike.forgetBuffer {c1 c2 : Course Unit × State} (h : EndsAlike i s1 s2 c1 c2) :
    EndsAlike i s1 s2 (forgetBuffer c1) (forgetBuffer c2) := by
  cases h with
  | done v1 v2 runs => exact .done v1 v2 runs
  | raised r1 r2 runs => exact .raised r1 r2 ⟨runs.calls, runs.answers, runs.busy, runs.seq⟩
  | hung runs => exact .hung runs

/-! ### Every instruction -/

/-- A command that ends in both runs, or in neither: the records presented may differ. -/
theorem EndsAlike.finishCommand {α : Type} (ok : State → α → Result) {c1 c2 : Course α × State}
    (h : EndsAlike i s1 s2 c1 c2) : RunsAlike i s1 s2 (finishCommand ok c1) (finishCommand ok c2) := by
  cases h with
  | done _ _ runs => exact ⟨runs.calls, runs.answers, rfl, runs.seq⟩
  | raised _ _ runs => exact ⟨runs.calls, runs.answers, rfl, runs.seq⟩
  | hung runs => exact runs

theorem exec_runsAlike (answers : ∀ k, SameAnswers (s1.env.drawAt k) (s2.env.drawAt k))
    (hexec1 : exec i s1 = .next t1) (hexec2 : exec i s2 = .next t2) : RunsAlike i s1 s2 t1 t2 := by
  obtain hset | hget | ⟨a, rfl⟩ | ⟨c, rfl⟩ | rfl | rfl | rfl | ⟨a, v, rfl⟩ | ⟨a, rfl⟩ := instr_cases i
  · obtain ⟨m1, hm1⟩ := exec_setter hset s1
    obtain ⟨m2, hm2⟩ := exec_setter hset s2
    cases hm1.symm.trans hexec1
    cases hm2.symm.trans hexec2
    exact runsAlike_of_no_calls rfl rfl answers rfl (by rintro (rfl | rfl) <;> cases hset)
  · obtain ⟨b1, hm1⟩ := exec_getter hget s1
    obtain ⟨b2, hm2⟩ := exec_getter hget s2
    cases hm1.symm.trans hexec1
    cases hm2.symm.trans hexec2
    exact runsAlike_of_no_calls rfl rfl answers rfl (by rintro (rfl | rfl) <;> cases hget)
  · cases (exec_rdreg_eq s1 a).symm.trans hexec1
    cases (exec_rdreg_eq s2 a).symm.trans hexec2
    exact ((runsAlike_accept (by simp) answers).rd a).finishCommand _
  · cases (exec_wrerr_eq s1 c).symm.trans hexec1
    cases (exec_wrerr_eq s2 c).symm.trans hexec2
    exact ((runsAlike_accept (by simp) answers).wr .errFlag _ _).finishCommand _
  · cases (exec_wrall_eq s1).symm.trans hexec1
    cases (exec_wrall_eq s2).symm.trans hexec2
    exact ((runsAlike_beginLoop answers).writeFrom (.inl rfl) writeOrder).finishCommand _
  · cases (exec_rdall_eq s1).symm.trans hexec1
    cases (exec_rdall_eq s2).symm.trans hexec2
    exact ((runsAlike_beginLoop answers).readFrom (.inr rfl) readOrder).forgetBuffer.finishCommand _
  · cases (exec_rderr_eq s1).symm.trans hexec1
    cases (exec_rderr_eq s2).symm.trans hexec2
    exact ((runsAlike_accept (by simp) answers).rd .errFlag).finishCommand _
  · cases (exec_frameW_eq s1 a v).symm.trans hexec1
    cases (exec_frameW_eq s2 a v).symm.trans hexec2
    exact ((runsAlike_accept (by simp) answers).wr a v v).finishCommand _
  · cases (exec_frameR_eq s1 a).symm.trans hexec1
    cases (exec_frameR_eq s2 a).symm.trans hexec2
    exact ((runsAlike_accept (by simp) answers).rd a).finishCommand _
end

/-- Settles O53: two runs whose environments answer alike stand alike where they end or wait (`exec_runsAlike`). -/
theorem noDataValueChangesTheCalls : Obligations.NoDataValueChangesTheCalls := by
  intro i s1 s2 t1 t2 answers hexec1 hexec2
  obtain ⟨calls, _, busy, seq⟩ := exec_runsAlike answers hexec1 hexec2
  exact ⟨calls, busy, seq⟩

end Sys2Proof.Machine
end

section
/-! Errors and exceptions (spec R200 to R219): no instruction ends a run, which failure of a transaction its command
reports, and that a bus command which ended has left its transaction. -/

namespace Sys2Proof.Machine

/-! ### Every instruction answers a next state -/

theorem exec_answers_next (i : Instr) (s : State) : ∃ t, exec i s = .next t := by
  obtain hset | hget | ⟨a, rfl⟩ | ⟨c, rfl⟩ | rfl | rfl | rfl | ⟨a, v, rfl⟩ | ⟨a, rfl⟩ := instr_cases i
  · obtain ⟨m, hm⟩ := exec_setter hset s
    exact ⟨_, hm⟩
  · obtain ⟨b, hb⟩ := exec_getter hget s
    exact ⟨_, hb⟩
  · exact ⟨_, exec_rdreg_eq s a⟩
  · exact ⟨_, exec_wrerr_eq s c⟩
  · exact ⟨_, exec_wrall_eq s⟩
  · exact ⟨_, exec_rdall_eq s⟩
  · exact ⟨_, exec_rderr_eq s⟩
  · exact ⟨_, exec_frameW_eq s a v⟩
  · exact ⟨_, exec_frameR_eq s a⟩

/-- Settles O12, by the cases of the step: only RST on a busy unit faults; the step that runs an instruction answers
a next state because the instruction does (`exec_answers_next`). -/
theorem onlyFaultIsResetWhileBusy : Obligations.OnlyFaultIsResetWhileBusy := by
  intro s
  obtain fault | ⟨_, _, hx⟩ | ⟨_, f, _, hframe⟩ | ⟨_, _, hport⟩ := step_cases s
  · exact .inr fault
  · exact .inl ⟨_, hx⟩
  · obtain ⟨i, _, hx⟩ | ⟨_, _, hx⟩ := hframe
    · rw [hx]
      exact .inl (exec_answers_next i _)
    · exact .inl ⟨_, hx⟩
  · obtain ⟨_, hx⟩ | ⟨_, _, hx⟩ | ⟨w, rest, i, _, _, hx⟩ | ⟨_, _, _, _, _, hx⟩ := hport
    · exact .inl ⟨_, hx⟩
    · exact .inl ⟨_, hx⟩
    · rw [hx]
      exact .inl (exec_answers_next i _)
    · exact .inl ⟨_, hx⟩

/-! ### Which failure of a transaction is reported -/

section
variable {α : Type} (get : Draw → Option (Except BusErr α)) (entry : Except BusErr α → TraceEntry)
  (ok : α → Result) {s : State}

/-- Rows 4 and 5 of the table of R170 report alike: the deassert's failure masks the transfer's (spec D10). -/
theorem singleCommand_deassert_fails {r2 : Except BusErr α} {e3 : SelErr}
    (h0 : (s.env.drawAt 0).sel = some (.ok ())) (h1 : get (s.env.drawAt 1) = some r2)
    (h2 : (s.env.drawAt 2).sel = some (.error e3)) :
    (singleCommand get entry ok s).result = some (selectRecord e3) := by
  rw [singleCommand_follows_table get entry ok h0 h1 h2, State.after_result]
  cases r2 <;> rfl

/-- Row 3 of the table of R170. -/
theorem singleCommand_transfer_fails {e2 : BusErr} (h0 : (s.env.drawAt 0).sel = some (.ok ()))
    (h1 : get (s.env.drawAt 1) = some (.error e2)) (h2 : (s.env.drawAt 2).sel = some (.ok ())) :
    (singleCommand get entry ok s).result = some (busRecord e2) := by
  rw [singleCommand_follows_table get entry ok h0 h1 h2, State.after_result]
  rfl
end

/-- The commands that read, whatever the register. -/
theorem exists_readsOnce {i : Instr} (h : (∃ a, i = .rdreg a) ∨ i = .rderr ∨ ∃ a, i = .frameR a) :
    ∃ a, ReadsOnce i a := by
  obtain ⟨a, rfl⟩ | rfl | ⟨a, rfl⟩ := h
  · exact ⟨a, .inl rfl⟩
  · exact ⟨_, .inr (.inl ⟨rfl, rfl⟩)⟩
  · exact ⟨a, .inr (.inr rfl)⟩

/-- Settles O40, by the rows of the table of R170: row 1 for every command of one transaction
(`singleCommand_assert_fails`), rows 4 and 5 (`singleCommand_deassert_fails`) and row 3 (`singleCommand_transfer_fails`)
for those that read and those that write. -/
theorem errorPriorityInOneTransaction : Obligations.ErrorPriorityInOneTransaction := by
  refine ⟨fun i hi s e1 assert => ?assertFails, fun i hi s r2 => ?reads, fun i hi s r2 => ?writes⟩
  case assertFails =>
    obtain ⟨rdreg, wrerr, rderr, frameW, frameR⟩ :=
      exec_single_of_forall s fun get entry ok => singleCommand_assert_fails get entry ok assert
    obtain ⟨a, rfl⟩ | rfl | ⟨a, rfl⟩ | ⟨c, rfl⟩ | ⟨a, v, rfl⟩ := hi
    · exact ⟨_, rdreg a, rfl, rfl⟩
    · exact ⟨_, rderr, rfl, rfl⟩
    · exact ⟨_, frameR a, rfl, rfl⟩
    · exact ⟨_, wrerr c, rfl, rfl⟩
    · exact ⟨_, frameW a v, rfl, rfl⟩
  case reads =>
    obtain ⟨a, ha⟩ := exists_readsOnce hi
    obtain ⟨ok, hexec⟩ := exec_readsOnce s ha
    constructor
    · rintro e3 ⟨assert, exchange, deassert⟩
      exact ⟨_, hexec, singleCommand_deassert_fails _ _ ok assert exchange deassert⟩
    · rintro e2 ⟨assert, exchange, deassert⟩
      exact ⟨_, hexec, singleCommand_transfer_fails _ _ ok assert exchange deassert⟩
  case writes =>
    obtain ⟨tx, htx⟩ := exists_writesOnce hi
    have hexec := exec_writesOnce s htx
    constructor
    · rintro e3 ⟨assert, write, deassert⟩
      exact ⟨_, hexec, singleCommand_deassert_fails _ _ _ assert write deassert⟩
    · rintro e2 ⟨assert, write, deassert⟩
      exact ⟨_, hexec, singleCommand_transfer_fails _ _ _ assert write deassert⟩

/-! ### The phase a bus command leaves -/

/-- The unit at `s` is where the course `c` says: outside any transaction after a value, inside one while waiting. A
course that raised says nothing: the entry of its error writes `phase` and `pend` itself (spec R209). -/
structure PhaseFollows {α : Type} (c : Course α) (s : State) : Prop where
  done : ∀ v, c = .done v → s.phase = .idle ∧ s.pend = none
  hung : c = .hung → s.phase ≠ .idle

section
variable {α : Type} {s : State}

theorem phaseFollows_done {v : α} (h : s.phase = .idle ∧ s.pend = none) : PhaseFollows (.done v) s :=
  ⟨fun _ _ => h, nofun⟩

theorem phaseFollows_raised (r : Raise) : PhaseFollows (.raised r : Course α) s := ⟨nofun, nofun⟩

theorem phaseFollows_hung (h : s.phase ≠ .idle) : PhaseFollows (.hung : Course α) s := ⟨nofun, fun _ => h⟩

/-- A transaction whose three calls were answered does not wait. -/
theorem phaseFollows_closing {r2 : Except BusErr α} {r3 : Except SelErr Unit} (h : s.phase = .idle ∧ s.pend = none) :
    PhaseFollows (closingCourse r2 r3) s := by
  rcases r3 with e3 | _
  · exact phaseFollows_raised _
  · rcases r2 with e2 | v
    · exact phaseFollows_raised _
    · exact phaseFollows_done h

/-- Wherever the transaction began: a deassert that was answered has cleared `phase` and `pend`, and a call that is
not answered leaves the phase of that call. -/
theorem transact_phaseFollows (get : Draw → Option (Except BusErr α)) (entry : Except BusErr α → TraceEntry)
    (s : State) : PhaseFollows (transact (callTransfer get entry) s).1 (transact (callTransfer get entry) s).2 := by
  rcases transact_cases get entry s with ⟨_, hx⟩ | ⟨e1, _, hx⟩ | ⟨_, _, hx⟩ | ⟨_, _, _, _, hx⟩
    | ⟨r2, r3, _, _, _, hx⟩ <;> rw [hx]
  case inl => exact phaseFollows_hung nofun
  case inr.inl => exact phaseFollows_raised _
  case inr.inr.inl => exact phaseFollows_hung nofun
  case inr.inr.inr.inl => exact phaseFollows_hung nofun
  case inr.inr.inr.inr => exact phaseFollows_closing ⟨rfl, rfl⟩
end

section
variable {s : State}

theorem wr_phaseFollows (a : RegAddr) (v : Byte) (s : State) : PhaseFollows (wr a v s).1 (wr a v s).2 :=
  transact_phaseFollows _ _ s

/-- A read ends as its transaction ends. -/
theorem PhaseFollows.readByte {c : Course (Byte × Byte) × State} (h : PhaseFollows c.1 c.2) :
    PhaseFollows (readByte c).1 (readByte c).2 := by
  rcases c with ⟨rx | r | _, t⟩
  · exact phaseFollows_done (h.done rx rfl)
  · exact phaseFollows_raised r
  · exact phaseFollows_hung (h.hung rfl)

theorem rd_phaseFollows (a : RegAddr) (s : State) : PhaseFollows (rd a s).1 (rd a s).2 :=
  (transact_phaseFollows _ _ s).readByte

/-- The loop of `WRALL` stops where its last transaction stopped; `hs` is for a loop with nothing left. -/
theorem writeFrom_phaseFollows {order : List (RegAddr × (Mirror → Byte))}
    (hs : order = [] → s.phase = .idle ∧ s.pend = none) :
    PhaseFollows (writeFrom order s).1 (writeFrom order s).2 := by
  induction order generalizing s with
  | nil => exact phaseFollows_done (hs rfl)
  | cons x rest ih =>
    obtain ⟨a, pack⟩ := x
    have last := wr_phaseFollows a (pack s.mirror) s
    rcases hx : wr a (pack s.mirror) s with ⟨u | r | _, t⟩ <;> rw [hx] at last
    · rw [writeFrom_done hx]
      exact ih fun _ => last.done u rfl
    · rw [writeFrom_raised hx]
      exact last
    · rw [writeFrom_hung hx]
      exact last

/-- The same for the loop of `RDALL`. -/
theorem readFrom_phaseFollows {order : List RegAddr} (hs : order = [] → s.phase = .idle ∧ s.pend = none) :
    PhaseFollows (readFrom order s).1 (readFrom order s).2 := by
  induction order generalizing s with
  | nil => exact phaseFollows_done (hs rfl)
  | cons a rest ih =>
    have last := rd_phaseFollows a s
    rcases hx : rd a s with ⟨b | r | _, t⟩ <;> rw [hx] at last
    · rw [readFrom_done hx]
      exact ih fun _ => last.done b rfl
    · rw [readFrom_raised hx]
      exact phaseFollows_raised r
    · rw [readFrom_hung hx]
      exact phaseFollows_hung (last.hung rfl)
end

theorem PhaseFollows.forgetBuffer {c : Course Unit × State} (h : PhaseFollows c.1 c.2) :
    PhaseFollows (forgetBuffer c).1 (forgetBuffer c).2 := by
  obtain ⟨_, _, hx⟩ | ⟨_, hx⟩ := forgetBuffer_cases c <;> rw [hx]
  · exact ⟨h.done, h.hung⟩
  · exact h

/-- The unit has ended its command and is idle with no failure pending, or waits inside a transaction. -/
def EndedOrWaiting (t : State) : Prop :=
  (t.busy = false ∧ t.phase = .idle ∧ t.pend = none) ∨ (t.busy = true ∧ t.phase ≠ .idle)

/-- A value is presented where its course left the unit, an error enters IDLE itself (spec R209), and a course that
waits leaves the unit waiting. -/
theorem PhaseFollows.finishCommand {α : Type} (ok : State → α → Result) {c : Course α × State}
    (hbusy : c.2.busy = true) (h : PhaseFollows c.1 c.2) : EndedOrWaiting (finishCommand ok c) := by
  rcases c with ⟨v | r | _, t⟩
  · exact .inl ⟨rfl, h.done v rfl⟩
  · exact .inl ⟨rfl, rfl, rfl⟩
  · exact .inr ⟨hbusy, h.hung rfl⟩

/-- Settles O49: each bus command is the end (`PhaseFollows.finishCommand`) of one transaction or of a composite loop,
whose course says in which phase it left the unit. -/
theorem errorsLeaveTheUnitIdle : Obligations.ErrorsLeaveTheUnitIdle := by
  intro i s t hi hexec
  change EndedOrWaiting t
  obtain ⟨a, rfl⟩ | ⟨c, rfl⟩ | rfl | rfl | rfl | ⟨a, v, rfl⟩ | ⟨a, rfl⟩ := busCommand_cases hi
  · cases (exec_rdreg_eq s a).symm.trans hexec
    exact (rd_phaseFollows a _).finishCommand _ (rd_busy a)
  · cases (exec_wrerr_eq s c).symm.trans hexec
    exact (wr_phaseFollows _ _ _).finishCommand _ (wr_busy _ _)
  · cases (exec_wrall_eq s).symm.trans hexec
    exact (writeFrom_phaseFollows (order := writeOrder) nofun).finishCommand _ (writeFrom_busy _ rfl)
  · cases (exec_rdall_eq s).symm.trans hexec
    exact (readFrom_phaseFollows (order := readOrder) nofun).forgetBuffer.finishCommand _
      ((forgetBuffer_busy _).trans (readFrom_busy _ rfl))
  · cases (exec_rderr_eq s).symm.trans hexec
    exact (rd_phaseFollows _ _).finishCommand _ (rd_busy _)
  · cases (exec_frameW_eq s a v).symm.trans hexec
    exact (wr_phaseFollows a v _).finishCommand _ (wr_busy a v)
  · cases (exec_frameR_eq s a).symm.trans hexec
    exact (rd_phaseFollows a _).finishCommand _ (rd_busy a)

end Sys2Proof.Machine
end

section
/-! The reset input and waiting (spec R173, R230 to R233): the cases of the step in which no instruction runs. -/

namespace Sys2Proof.Machine

/-- Settles O9: the step of an idle unit with nothing to take (`step_idle_waits`), and that of a unit inside a command,
which only RST disturbs (`step_busy_waits`). -/
theorem unitWaitsWithoutInputOrAnswer : Obligations.UnitWaitsWithoutInputOrAnswer := by
  refine ⟨fun s hbusy hprim hport => step_idle_waits hbusy hprim hport, fun s hbusy hport => ?nothing,
    fun s w rest hbusy hport => ?word⟩
  case nothing => exact step_busy_waits hbusy (by simp [hport])
  case word => exact step_busy_waits hbusy (by simp [hport])

/-- Settles O10: RST on an idle unit (`step_reset`) and on a unit inside a command (`step_busy_reset`). -/
theorem resetInputGivesResetState : Obligations.ResetInputGivesResetState :=
  ⟨fun _ _ hbusy hprim hport => step_reset hbusy hprim hport, fun _ _ hbusy hport => step_busy_reset hbusy hport⟩

end Sys2Proof.Machine
end

section
/-! How many calls a command makes (spec R250): the calls of one transaction, of a composite loop, and of each
instruction, every one of them answered by the environment and recorded. -/

namespace Sys2Proof.Machine

/-- From `s` to `t` the unit made the answered calls `calls`: they stand in the trace, and the environment has moved by
as many answers. -/
def AddsCalls (calls : List TraceEntry) (s t : State) : Prop :=
  t.trace = s.trace ++ calls ∧ t.env = s.env.advance calls.length

/-- From `s` to `t` the unit made at most `n` calls. -/
def AddsAtMost (n : Nat) (s t : State) : Prop := ∃ calls, AddsCalls calls s t ∧ calls.length ≤ n

/-- A transaction with the course `c` may have made `n` calls: 1 or 3 if it ended, fewer than 3 if it waits. -/
structure CountFollows {α : Type} (c : Course α) (n : Nat) : Prop where
  ended : c ≠ .hung → n = 1 ∨ n = 3
  waits : c = .hung → n < 3

section
variable {α : Type} {n k : Nat} {s t u : State} {calls more : List TraceEntry}

theorem addsCalls_nil (htrace : t.trace = s.trace) (henv : t.env = s.env) : AddsCalls [] s t :=
  ⟨by simp [htrace], by simp [henv]⟩

theorem AddsCalls.trans (hst : AddsCalls calls s t) (htu : AddsCalls more t u) : AddsCalls (calls ++ more) s u := by
  obtain ⟨htrace, henv⟩ := hst
  obtain ⟨hmore, hadvance⟩ := htu
  exact ⟨by rw [hmore, htrace, List.append_assoc], by rw [hadvance, henv, Env.advance_advance, List.length_append]⟩

theorem AddsAtMost.trans (hst : AddsAtMost n s t) (htu : AddsAtMost k t u) : AddsAtMost (n + k) s u := by
  obtain ⟨calls, hcalls, hn⟩ := hst
  obtain ⟨more, hmore, hk⟩ := htu
  exact ⟨calls ++ more, hcalls.trans hmore, by rw [List.length_append]; omega⟩

theorem AddsAtMost.mono (h : AddsAtMost n s t) (hnk : n ≤ k) : AddsAtMost k s t := by
  obtain ⟨calls, hcalls, hn⟩ := h
  exact ⟨calls, hcalls, hn.trans hnk⟩

theorem addsCalls_waiting (s : State) (p : Phase) (pend : Option BusErr) (line : SelLine) (calls : List TraceEntry) :
    AddsCalls calls s (s.waiting p pend line calls) := ⟨rfl, rfl⟩

/-! ### One transaction -/

theorem countFollows_hung (h : n < 3) : CountFollows (.hung : Course α) n := ⟨absurd rfl, fun _ => h⟩

theorem countFollows_ended {c : Course α} (hc : c ≠ .hung) (hn : n = 1 ∨ n = 3) : CountFollows c n :=
  ⟨fun _ => hn, fun h => absurd h hc⟩

theorem CountFollows.le_three {c : Course α} (h : CountFollows c n) : n ≤ 3 := by
  by_cases hc : c = .hung
  · exact (h.waits hc).le
  · rcases h.ended hc with rfl | rfl <;> decide

/-- A transaction whose three calls were answered has ended. -/
theorem closingCourse_ne_hung (r2 : Except BusErr α) (r3 : Except SelErr Unit) : closingCourse r2 r3 ≠ .hung := by
  rcases r3 with _ | _
  · exact nofun
  · cases r2 <;> exact nofun

/-- A transaction makes one call if its assert fails and three if all are answered (spec R170), and it waits before one
of the three (R173). -/
theorem transact_addsCalls (get : Draw → Option (Except BusErr α)) (entry : Except BusErr α → TraceEntry)
    (s : State) :
    ∃ calls, AddsCalls calls s (transact (callTransfer get entry) s).2
      ∧ CountFollows (transact (callTransfer get entry) s).1 calls.length := by
  rcases transact_cases get entry s with ⟨_, hx⟩ | ⟨e1, _, hx⟩ | ⟨_, _, hx⟩ | ⟨r2, _, _, _, hx⟩
    | ⟨r2, r3, _, _, _, hx⟩ <;> rw [hx] <;> refine ⟨_, addsCalls_waiting .., ?_⟩
  case inl => exact countFollows_hung (by decide)
  case inr.inl => exact countFollows_ended nofun (.inl rfl)
  case inr.inr.inl => exact countFollows_hung (by decide)
  case inr.inr.inr.inl => exact countFollows_hung (n := 2) (by decide)
  case inr.inr.inr.inr => exact countFollows_ended (closingCourse_ne_hung r2 r3) (.inr rfl)

theorem wr_addsAtMost (a : RegAddr) (v : Byte) (s : State) : AddsAtMost 3 s (wr a v s).2 := by
  obtain ⟨calls, hcalls, count⟩ := transact_addsCalls Draw.write (.write (writeFrame a v)) s
  exact ⟨calls, hcalls, count.le_three⟩

theorem rd_addsAtMost (a : RegAddr) (s : State) : AddsAtMost 3 s (rd a s).2 := by
  obtain ⟨calls, hcalls, count⟩ := transact_addsCalls Draw.exchange (.exchange (readFrame a)) s
  rw [rd_eq, readByte_state]
  exact ⟨calls, hcalls, count.le_three⟩

/-! ### The end of a command -/

/-- The end of a command makes no call. -/
theorem AddsCalls.finishCommand (ok : State → α → Result) {c : Course α × State} (h : AddsCalls calls s c.2) :
    AddsCalls calls s (finishCommand ok c) := by
  obtain ⟨_, _, hx⟩ | ⟨_, _, hx⟩ | ⟨_, hx⟩ := finishCommand_cases ok c <;> rw [hx] <;> exact h

theorem AddsAtMost.finishCommand (ok : State → α → Result) {c : Course α × State} (h : AddsAtMost n s c.2) :
    AddsAtMost n s (finishCommand ok c) := by
  obtain ⟨calls, hcalls, hn⟩ := h
  exact ⟨calls, hcalls.finishCommand ok, hn⟩

/-- A command is still busy after its course exactly if the course waits. -/
theorem finishCommand_busy_iff (ok : State → α → Result) {c : Course α × State} (h : c.2.busy = true) :
    (finishCommand ok c).busy = true ↔ c.1 = .hung := by
  rcases c with ⟨_ | _ | _, t⟩
  · simp
  · simp
  · simpa using h

/-- A command of one transaction makes the calls of that transaction. -/
theorem singleCommand_addsCalls (get : Draw → Option (Except BusErr α)) (entry : Except BusErr α → TraceEntry)
    (ok : α → Result) (s : State) :
    ∃ calls, AddsCalls calls s (singleCommand get entry ok s)
      ∧ ((singleCommand get entry ok s).busy = false → calls.length = 1 ∨ calls.length = 3)
      ∧ ((singleCommand get entry ok s).busy = true → calls.length < 3) := by
  obtain ⟨calls, hcalls, count⟩ := transact_addsCalls get entry s.accept
  have accepted : (transact (callTransfer get entry) s.accept).2.busy = true := by
    obtain ⟨_, _, _, _, hx⟩ := transact_frame get entry s.accept
    rw [hx]
    rfl
  have waits : (singleCommand get entry ok s).busy = true ↔ (transact (callTransfer get entry) s.accept).1 = .hung :=
    finishCommand_busy_iff (fun _ v => ok v) accepted
  refine ⟨calls, AddsCalls.finishCommand (s := s) _ hcalls, fun hended => count.ended fun hung => ?_,
    fun hbusy => count.waits (waits.mp hbusy)⟩
  exact Bool.false_ne_true (hended.symm.trans (waits.mpr hung))

/-! ### The composite commands -/

/-- The loop of `WRALL` makes at most three calls for each address left. -/
theorem writeFrom_addsAtMost (order : List (RegAddr × (Mirror → Byte))) (s : State) :
    AddsAtMost (3 * order.length) s (writeFrom order s).2 := by
  induction order generalizing s with
  | nil => exact ⟨[], addsCalls_nil rfl rfl, le_rfl⟩
  | cons x rest ih =>
    obtain ⟨a, pack⟩ := x
    have first := wr_addsAtMost a (pack s.mirror) s
    rw [List.length_cons, Nat.mul_succ, Nat.add_comm]
    rcases hx : wr a (pack s.mirror) s with ⟨_ | r | _, t⟩ <;> rw [hx] at first
    · rw [writeFrom_done hx]
      exact first.trans (ih { t with seq := t.seq + 1 })
    · rw [writeFrom_raised hx]
      exact first.mono (Nat.le_add_right _ _)
    · rw [writeFrom_hung hx]
      exact first.mono (Nat.le_add_right _ _)

/-- The same for the loop of `RDALL`. -/
theorem readFrom_addsAtMost (order : List RegAddr) (s : State) :
    AddsAtMost (3 * order.length) s (readFrom order s).2 := by
  induction order generalizing s with
  | nil => exact ⟨[], addsCalls_nil rfl rfl, le_rfl⟩
  | cons a rest ih =>
    have first := rd_addsAtMost a s
    rw [List.length_cons, Nat.mul_succ, Nat.add_comm]
    rcases hx : rd a s with ⟨b | r | _, t⟩ <;> rw [hx] at first
    · rw [readFrom_done hx]
      exact first.trans (ih { t with rxbuf := t.rxbuf.setIfInBounds t.seq b, seq := t.seq + 1 })
    · rw [readFrom_raised hx]
      exact first.mono (Nat.le_add_right _ _)
    · rw [readFrom_hung hx]
      exact first.mono (Nat.le_add_right _ _)

theorem AddsAtMost.forgetBuffer {c : Course Unit × State} (h : AddsAtMost n s c.2) :
    AddsAtMost n s (forgetBuffer c).2 := by
  obtain ⟨_, _, hx⟩ | ⟨_, hx⟩ := forgetBuffer_cases c <;> rw [hx] <;> exact h

theorem exec_wrall_addsAtMost (hexec : exec .wrall s = .next t) : AddsAtMost 27 s t := by
  cases (exec_wrall_eq s).symm.trans hexec
  exact (writeFrom_addsAtMost writeOrder s.beginLoop).finishCommand _

theorem exec_rdall_addsAtMost (hexec : exec .rdall s = .next t) : AddsAtMost 30 s t := by
  cases (exec_rdall_eq s).symm.trans hexec
  exact (readFrom_addsAtMost readOrder s.beginLoop).forgetBuffer.finishCommand _

/-! ### Every instruction -/

/-- The commands of one transaction are those that make calls and are not composite. -/
theorem readsOnce_or_writesOnce {i : Instr} (hi : makesCalls i = true) (hwrall : i ≠ .wrall) (hrdall : i ≠ .rdall) :
    (∃ a, ReadsOnce i a) ∨ ∃ tx, WritesOnce i tx := by
  obtain ⟨a, rfl⟩ | ⟨c, rfl⟩ | rfl | rfl | rfl | ⟨a, v, rfl⟩ | ⟨a, rfl⟩ := busCommand_cases hi
  · exact .inl ⟨a, .inl rfl⟩
  · exact .inr (exists_writesOnce (.inl ⟨c, rfl⟩))
  · exact absurd rfl hwrall
  · exact absurd rfl hrdall
  · exact .inl ⟨_, .inr (.inl ⟨rfl, rfl⟩)⟩
  · exact .inr (exists_writesOnce (.inr ⟨a, v, rfl⟩))
  · exact .inl ⟨a, .inr (.inr rfl)⟩

/-- A setter or an accessor presents a record and may have written a field register, and that is all (spec R100,
R140). -/
theorem exec_presents_of_no_calls {i : Instr} (hi : makesCalls i = false) (hexec : exec i s = .next t) :
    ∃ m r, t = State.present { s with mirror := m } r := by
  obtain hset | hget | ⟨a, rfl⟩ | ⟨c, rfl⟩ | rfl | rfl | rfl | ⟨a, v, rfl⟩ | ⟨a, rfl⟩ := instr_cases i
  · obtain ⟨m, hm⟩ := exec_setter hset s
    cases hm.symm.trans hexec
    exact ⟨m, Result.done, rfl⟩
  · obtain ⟨b, hb⟩ := exec_getter hget s
    cases hb.symm.trans hexec
    exact ⟨s.mirror, Result.byte b, rfl⟩
  all_goals cases hi
end

/-- Settles O51: a setter or an accessor adds no call (`exec_presents_of_no_calls`), a composite command at most three
for each address of its order (`exec_wrall_addsAtMost`, `exec_rdall_addsAtMost`), and every other command the calls of
its one transaction (`singleCommand_addsCalls`). -/
theorem callCountsPerCommand : Obligations.CallCountsPerCommand := by
  intro i s t hexec
  cases hi : makesCalls i
  case false =>
    obtain ⟨m, r, rfl⟩ := exec_presents_of_no_calls hi hexec
    have ⟨htrace, henv⟩ : AddsCalls [] s (State.present { s with mirror := m } r) := addsCalls_nil rfl rfl
    exact ⟨[], htrace, henv, fun _ => rfl, fun _ _ => nofun, fun _ => Nat.zero_le _, fun _ => Nat.zero_le _⟩
  case true =>
    by_cases hwrall : i = .wrall
    · subst hwrall
      obtain ⟨calls, ⟨htrace, henv⟩, count⟩ := exec_wrall_addsAtMost hexec
      exact ⟨calls, htrace, henv, nofun, absurd rfl, fun _ => count, nofun⟩
    by_cases hrdall : i = .rdall
    · subst hrdall
      obtain ⟨calls, ⟨htrace, henv⟩, count⟩ := exec_rdall_addsAtMost hexec
      exact ⟨calls, htrace, henv, nofun, fun _ => absurd rfl, nofun, fun _ => count⟩
    obtain ⟨calls, ⟨htrace, henv⟩, count⟩ : ∃ calls, AddsCalls calls s t
        ∧ (t.busy = false → calls.length = 1 ∨ calls.length = 3) ∧ (t.busy = true → calls.length < 3) := by
      obtain ⟨a, ha⟩ | ⟨tx, htx⟩ := readsOnce_or_writesOnce hi hwrall hrdall
      · obtain ⟨ok, hx⟩ := exec_readsOnce s ha
        cases hx.symm.trans hexec
        exact singleCommand_addsCalls ..
      · cases (exec_writesOnce s htx).symm.trans hexec
        exact singleCommand_addsCalls ..
    exact ⟨calls, htrace, henv, nofun, fun _ _ _ => count, (absurd · hwrall), (absurd · hrdall)⟩

end Sys2Proof.Machine
end

section
/-! The select line of an idle unit (spec R241), read from its last call. -/

namespace Sys2Proof.Machine

/-- A transaction ends with an assert that failed or with a deassert (spec R170). -/
theorem bracketStep_eq_assert {p : Option Phase} {e : TraceEntry} (h : bracketStep p e = some .assert) :
    (∃ e1, e = .selAssert (.error e1)) ∨ ∃ r3, e = .selDeassert r3 := by
  unfold bracketStep at h
  split at h <;> simp at h ⊢

/-- The last call of a transaction leaves the line inactive, or unknown if it failed (spec R32). -/
theorem lineStep_of_transaction_end {p : Option Phase} {e : TraceEntry} (h : bracketStep p e = some .assert)
    (l : SelLine) : lineStep l e = if selectFailed e then .unknown else .inactive := by
  obtain ⟨e1, rfl⟩ | ⟨e3 | _, rfl⟩ := bracketStep_eq_assert h <;> rfl

/-- After whole transactions the line is inactive, or unknown because a select call failed. -/
theorem lineOf_between_transactions {calls : List TraceEntry} (h : bracketOf calls = some .assert) :
    lineOf calls = .inactive ∨ lineOf calls = .unknown ∧ ∃ e ∈ calls, selectFailed e = true := by
  obtain rfl | ⟨before, last, rfl⟩ := List.eq_nil_or_concat' calls
  · exact .inl rfl
  · rw [bracketOf, List.foldl_append] at h
    have line : lineOf (before ++ [last]) = if selectFailed last then .unknown else .inactive := by
      rw [lineOf, List.foldl_append]
      exact lineStep_of_transaction_end h _
    cases failed : selectFailed last <;> rw [failed] at line
    · exact .inl line
    · exact .inr ⟨line, last, by simp, failed⟩

/-- Settles O56: the calls of an idle unit form whole transactions, and `SEL` is what they say (`State.Inv`), which is
inactive but for a failed select call (`lineOf_between_transactions`). -/
theorem idleLineIsInactiveWithoutSelectError : Obligations.IdleLineIsInactiveWithoutSelectError := by
  rintro s ⟨_, bracket, line, _, _⟩ hbusy
  rw [hbusy] at bracket
  rw [line]
  obtain inactive | ⟨unknown, e, he, failed⟩ := lineOf_between_transactions bracket
  · exact ⟨by simp [inactive], fun _ => inactive⟩
  · exact ⟨by simp [unknown], fun quiet => absurd failed (by simp [quiet e he])⟩

end Sys2Proof.Machine
end

section
/-! What the host can have written (spec R245, R247): which command a write frame of the trace comes from, and the
reserved bits of Config1. -/

namespace Sys2Proof.Machine

/-- A write among the calls of the command `i` run at `s` is one of `WRALL`'s images or `WRERR`'s code. -/
def WrittenByHost (i : Instr) (s : State) (e : TraceEntry) : Prop :=
  ∀ tx r, e = .write tx r →
    (i = .wrall ∧ tx ∈ writeFrames s.mirror) ∨ ∃ c, i = .wrerr c ∧ tx = (0x47, c.code.setWidth 8)

section
variable {i : Instr} {s t : State}

theorem GrowsBy.mono {P Q : TraceEntry → Prop} (h : GrowsBy P s t) (hPQ : ∀ e, P e → Q e) : GrowsBy Q s t := by
  obtain ⟨calls, htrace, hP⟩ := h
  exact ⟨calls, htrace, fun e he => hPQ e (hP e he)⟩

/-- The one write of `WRERR c` carries the code of `c` to address 7 (spec R176). -/
theorem exec_wrerr_growsBy {c : ErrControl} (hexec : exec (.wrerr c) s = .next t) :
    GrowsBy (WrittenByHost (.wrerr c) s) s t := by
  cases (exec_wrerr_eq s c).symm.trans hexec
  have sent : GrowsBy (WrittenByHost (.wrerr c) s) s.accept (wr .errFlag (c.code.setWidth 8) s.accept).2 :=
    transact_growsBy (fun _ => nofun) (fun _ => nofun) fun _ => by rintro _ _ ⟨⟩; exact .inr ⟨c, rfl, rfl⟩
  exact finishCommand_growsBy _ sent

/-- For every other command the table of R66 says it (`exec_growsBy`): of those that write, it lists `WRALL` alone. -/
theorem exec_growsBy_writtenByHost (hframeW : ∀ a v, i ≠ .frameW a v) (hframeR : ∀ a, i ≠ .frameR a)
    (hexec : exec i s = .next t) : GrowsBy (WrittenByHost i s) s t := by
  by_cases hi : ∃ c, i = .wrerr c
  · obtain ⟨c, rfl⟩ := hi
    exact exec_wrerr_growsBy hexec
  · refine (exec_growsBy hframeW hframeR hexec).mono ?_
    rintro _ listed tx r rfl
    obtain ⟨hwrall, _, sent⟩ | ⟨hwrerr, _⟩ := listed
    · exact .inl ⟨hwrall, sent⟩
    · exact absurd hwrerr hi

/-- No instruction places a primitive. -/
theorem exec_keeps_primitive (hexec : exec i s = .next t) : t.primitive = s.primitive := by
  cases hi : makesCalls i
  · obtain ⟨m, r, rfl⟩ := exec_presents_of_no_calls hi hexec
    rfl
  · exact (exec_busFrame hi hexec).primitive
end

/-- Settles O57, by the cases of the step with no primitive placed: RST clears the trace, waiting and an illegal word
make no call, and a word that is taken runs a command, no primitive (O6), whose writes are `WRALL`'s or `WRERR`'s
(`exec_growsBy_writtenByHost`). -/
theorem onlyWrallWritesAConfigurationRegister : Obligations.OnlyWrallWritesAConfigurationRegister := by
  intro s t hprim hstep
  obtain ⟨_, _, hx⟩ | ⟨_, _, hx⟩ | ⟨_, f, hf, _⟩ | ⟨_, _, hport⟩ := step_cases s
  · cases hx.symm.trans hstep
  · cases hx.symm.trans hstep
    exact ⟨hprim, .inr ⟨[], by simp, nofun⟩⟩
  · cases hprim.symm.trans hf
  · obtain ⟨_, hx⟩ | ⟨rest, _, hx⟩ | ⟨w, rest, i, hword, hdecode, hx⟩ | ⟨w, rest, e, _, _, hx⟩ := hport
    · cases hx.symm.trans hstep
      exact ⟨hprim, .inr ⟨[], by simp, nofun⟩⟩
    · cases hx.symm.trans hstep
      exact ⟨rfl, .inl rfl⟩
    · have hexec : exec i { s with port := rest } = .next t := hx.symm.trans hstep
      obtain ⟨hframeW, hframeR⟩ := noCommandWordSpellsAPrimitive w i hdecode
      obtain ⟨calls, htrace, written⟩ := exec_growsBy_writtenByHost hframeW hframeR hexec
      refine ⟨(exec_keeps_primitive hexec).trans hprim, .inr ⟨calls, htrace, fun tx r hcall => ⟨w, rest, hword, ?_⟩⟩⟩
      obtain ⟨rfl, sent⟩ | ⟨c, rfl, sent⟩ := written _ hcall tx r rfl
      · exact .inl ⟨hdecode, sent⟩
      · exact .inr ⟨c, hdecode, sent⟩
    · cases hx.symm.trans hstep
      exact ⟨hprim, .inr ⟨[], by simp, nofun⟩⟩

/-- A legal write frame to Config1 carries a byte the unit can send to Config1: its address byte names the register. -/
theorem config1_sends_of_frameLegal {tx : Byte × Byte} {r : Except BusErr Unit} (h : frameLegal (.write tx r) = true)
    (haddr : tx.1 = 0x41) : RegAddr.config1.sends tx.2 = true := by
  obtain ⟨a, _, ha⟩ := List.any_eq_true.mp h
  rw [Bool.and_eq_true, beq_iff_eq, haddr] at ha
  obtain ⟨address, sends⟩ := ha
  cases a with
  | config1 => exact sends
  | _ => exact absurd address (by decide)

theorem config1_top_bits {v : Byte} (h : RegAddr.config1.sends v = true) :
    v.getLsbD 7 = false ∧ v.getLsbD 6 = false := by
  have zero : v.extractLsb' 6 2 = 0 := eq_of_beq h
  constructor
  · simpa using congrArg (BitVec.getLsbD · 1) zero
  · simpa using congrArg (BitVec.getLsbD · 0) zero

/-- Settles O60: the step keeps the invariant (O54), so every frame of the trace is legal, and a legal frame carries
to Config1 only bytes whose bits 7:6 are 0 (`config1_top_bits`). -/
theorem config1IsSentWithItsReservedBitsZero : Obligations.Config1IsSentWithItsReservedBitsZero := by
  intro s t hinv hstep tx r hcall haddr
  obtain ⟨_, _, _, _, legal⟩ := stepKeepsTheInvariant s t hinv hstep
  exact config1_top_bits (config1_sends_of_frameLegal (List.all_eq_true.mp legal _ hcall) haddr)

end Sys2Proof.Machine
end
